-- ==== Sys2Proof/Word.lean ====
section
/-! DEFINITION. The bit-vector widths the spec uses (spec/00_scope.md R6, R8) and the two-byte command frame. -/

namespace Sys2Proof

/-- `u8` (R6). -/
abbrev Byte := BitVec 8

/-- `u16` (R6): a command word, a raw ADC word, a status word. -/
abbrev Word16 := BitVec 16

/-- A 7-bit device address of the bus (R20, R40). -/
abbrev BusAddr := BitVec 7

/-- `u32` (R6): the argument of `Delay` (R47), and the bits of an `i32` in two's complement. -/
abbrev Word32 := BitVec 32

/-- `u8[2]`: the bytes of a command frame in bus order (R25, R41). -/
structure Frame where
  b0 : Byte
  b1 : Byte
deriving DecidableEq, Repr

end Sys2Proof
end

