-- ==== Sys2Proof/Syntax.lean ====
section
/-! DEFINITION. The syntax: the logical commands (spec/30_encoding.md R61), the requests (spec/10_state.md R24) and `Instr`,
one constructor per row of spec/opcode_table.json. Operands are typed, so no reserved field value can be written. -/

namespace Sys2Proof

/-- Clock-stretch mode `cs` (R24, R61). -/
inductive ClockStretch
  | enabled
  | disabled
deriving DecidableEq, Repr

/-- Repeatability `rep` (R24, R61). -/
inductive Repeatability
  | high
  | medium
  | low
deriving DecidableEq, Repr

/-- The five periodic rates, named P0_5, P1, P2, P4 and P10 (R61, D6). -/
inductive Rate
  | p0_5
  | p1
  | p2
  | p4
  | p10
deriving DecidableEq, Repr

/-- The logical command, the encoder's input (R61). -/
inductive Command
  | singleShot (cs : ClockStretch) (rep : Repeatability)
  | periodic (rate : Rate) (rep : Repeatability)
  | fetchData
  | artPeriodic
  | breakPeriodic
  | softReset
  | heaterEnable
  | heaterDisable
  | readStatus
  | clearStatus
deriving DecidableEq, Repr

/-- The operation of a request, `op` (R24). -/
inductive Op
  | measure
  | reset
  | status
  | clearStatus
deriving DecidableEq, Repr

/-- The record `{op, cs, rep}` that CUR holds (R24). -/
structure Request where
  op : Op
  cs : ClockStretch
  rep : Repeatability
deriving DecidableEq, Repr

/-- RXLEN, one of 0, 3 and 6 (R27). -/
inductive RxLen
  | zero
  | three
  | six
deriving DecidableEq, Repr

/-- The instructions: 29 command words (R63) and four host requests (R70), one constructor per row of the opcode table. -/
inductive Instr
  /-- `CMD_SS_STRETCH_HIGH`: SingleShot(Enabled, High) (R81). -/
  | cmdSsStretchHigh
  /-- `CMD_SS_STRETCH_MEDIUM`: SingleShot(Enabled, Medium) (R82). -/
  | cmdSsStretchMedium
  /-- `CMD_SS_STRETCH_LOW`: SingleShot(Enabled, Low) (R83). -/
  | cmdSsStretchLow
  /-- `CMD_SS_NOSTRETCH_HIGH`: SingleShot(Disabled, High) (R84). -/
  | cmdSsNostretchHigh
  /-- `CMD_SS_NOSTRETCH_MEDIUM`: SingleShot(Disabled, Medium) (R85). -/
  | cmdSsNostretchMedium
  /-- `CMD_SS_NOSTRETCH_LOW`: SingleShot(Disabled, Low) (R86). -/
  | cmdSsNostretchLow
  /-- `CMD_PERIODIC_0P5_HIGH`: Periodic(P0_5, High) (R87). -/
  | cmdPeriodic0p5High
  /-- `CMD_PERIODIC_0P5_MEDIUM`: Periodic(P0_5, Medium) (R88). -/
  | cmdPeriodic0p5Medium
  /-- `CMD_PERIODIC_0P5_LOW`: Periodic(P0_5, Low) (R89). -/
  | cmdPeriodic0p5Low
  /-- `CMD_PERIODIC_1_HIGH`: Periodic(P1, High) (R90). -/
  | cmdPeriodic1High
  /-- `CMD_PERIODIC_1_MEDIUM`: Periodic(P1, Medium) (R91). -/
  | cmdPeriodic1Medium
  /-- `CMD_PERIODIC_1_LOW`: Periodic(P1, Low) (R92). -/
  | cmdPeriodic1Low
  /-- `CMD_PERIODIC_2_HIGH`: Periodic(P2, High) (R93). -/
  | cmdPeriodic2High
  /-- `CMD_PERIODIC_2_MEDIUM`: Periodic(P2, Medium) (R94). -/
  | cmdPeriodic2Medium
  /-- `CMD_PERIODIC_2_LOW`: Periodic(P2, Low) (R95). -/
  | cmdPeriodic2Low
  /-- `CMD_PERIODIC_4_HIGH`: Periodic(P4, High) (R96). -/
  | cmdPeriodic4High
  /-- `CMD_PERIODIC_4_MEDIUM`: Periodic(P4, Medium) (R97). -/
  | cmdPeriodic4Medium
  /-- `CMD_PERIODIC_4_LOW`: Periodic(P4, Low) (R98). -/
  | cmdPeriodic4Low
  /-- `CMD_PERIODIC_10_HIGH`: Periodic(P10, High) (R99). -/
  | cmdPeriodic10High
  /-- `CMD_PERIODIC_10_MEDIUM`: Periodic(P10, Medium) (R100). -/
  | cmdPeriodic10Medium
  /-- `CMD_PERIODIC_10_LOW`: Periodic(P10, Low) (R101). -/
  | cmdPeriodic10Low
  /-- `CMD_FETCH_DATA`: FetchData (R102). -/
  | cmdFetchData
  /-- `CMD_ART`: ArtPeriodic (R103). -/
  | cmdArt
  /-- `CMD_BREAK`: Break (R104). -/
  | cmdBreak
  /-- `CMD_SOFT_RESET`: SoftReset (R105). -/
  | cmdSoftReset
  /-- `CMD_HEATER_ENABLE`: HeaterEnable (R106). -/
  | cmdHeaterEnable
  /-- `CMD_HEATER_DISABLE`: HeaterDisable (R107). -/
  | cmdHeaterDisable
  /-- `CMD_READ_STATUS`: ReadStatus (R108). -/
  | cmdReadStatus
  /-- `CMD_CLEAR_STATUS`: ClearStatus (R109). -/
  | cmdClearStatus
  /-- `MEASURE cs, rep` (R170). -/
  | measure (cs : ClockStretch) (rep : Repeatability)
  /-- `RESET` (R171). -/
  | reset
  /-- `STATUS` (R172). -/
  | status
  /-- `CLEAR_STATUS` (R173). -/
  | clearStatus
deriving DecidableEq, Repr

end Sys2Proof
end

