-- ==== Sys2Proof/Config.lean ====
section
/-! DEFINITION. What is fixed when the block is constructed (spec/00_scope.md R5): the address selector and the opcode
table; and the free values: the transport's answers where nothing scripts them (spec/20_memory.md R44, R45, R46). -/

namespace Sys2Proof

/-- `CMD_OPCODE`, the OPEN parameter of R5 and R80: one 16-bit word per command of R63. -/
structure OpcodeTable where
  ssStretchHigh : Word16
  ssStretchMedium : Word16
  ssStretchLow : Word16
  ssNostretchHigh : Word16
  ssNostretchMedium : Word16
  ssNostretchLow : Word16
  periodic0p5High : Word16
  periodic0p5Medium : Word16
  periodic0p5Low : Word16
  periodic1High : Word16
  periodic1Medium : Word16
  periodic1Low : Word16
  periodic2High : Word16
  periodic2Medium : Word16
  periodic2Low : Word16
  periodic4High : Word16
  periodic4Medium : Word16
  periodic4Low : Word16
  periodic10High : Word16
  periodic10Medium : Word16
  periodic10Low : Word16
  fetchData : Word16
  artPeriodic : Word16
  breakPeriodic : Word16
  softReset : Word16
  heaterEnable : Word16
  heaterDisable : Word16
  readStatus : Word16
  clearStatus : Word16
deriving DecidableEq, Repr

/-- The words of a table, in the order of R63's rows. -/
def OpcodeTable.words (t : OpcodeTable) : List Word16 :=
  [t.ssStretchHigh, t.ssStretchMedium, t.ssStretchLow, t.ssNostretchHigh,
   t.ssNostretchMedium, t.ssNostretchLow, t.periodic0p5High, t.periodic0p5Medium,
   t.periodic0p5Low, t.periodic1High, t.periodic1Medium, t.periodic1Low,
   t.periodic2High, t.periodic2Medium, t.periodic2Low, t.periodic4High,
   t.periodic4Medium, t.periodic4Low, t.periodic10High, t.periodic10Medium,
   t.periodic10Low, t.fetchData, t.artPeriodic, t.breakPeriodic,
   t.softReset, t.heaterEnable, t.heaterDisable, t.readStatus,
   t.clearStatus]

/-- The inputs fixed at construction (R5, R20, R222). -/
structure Config where
  /-- `ADDR_SEL`, the address pin: 0 low, 1 high (R20). -/
  addrSel : BitVec 1
  /-- `CMD_OPCODE` (R80). -/
  cmdOpcode : OpcodeTable
deriving DecidableEq, Repr

/-- OPEN PARAMETER (R5, D26, I8; log entry 1): which natural numbers number a value of `E`. Nothing constrains it. -/
opaque Config.isErrorDetail : Nat → Bool

/-- `E`, the type of the transport's error detail (R5, R201, D26), an OPEN type parameter of the spec: its values are the numbers
that the unconstrained `Config.isErrorDetail` picks, so nothing can be proved of how many there are, nor that two of them
differ. DESIGN CHOICE (log entry 1): the type is countable, and 0 always numbers a value, so that a failure can be
written down. Safe. -/
abbrev TransportError := {n : Nat // n = 0 ∨ Config.isErrorDetail n = true}

/-- The error detail numbered `n`, or the one numbered 0 where `n` numbers none: how a detail is written in a script. -/
def errorDetail (n : Nat) : TransportError :=
  if h : Config.isErrorDetail n = true then ⟨n, .inr h⟩ else ⟨0, .inl rfl⟩

/-- The answer to `BusWrite` (R44). -/
inductive WriteAnswer
  | ok
  | err (e : TransportError)
deriving DecidableEq, Repr, Inhabited

/-- The answer to `BusRead` as the transport gives it (R45): the bytes it can place in a buffer of up to six, of which a read
of `n` bytes takes the first `n` (log entry 6), or a failure. -/
inductive ReadAnswer
  | ok (bytes : Vector Byte 6)
  | err (e : TransportError)
deriving DecidableEq, Repr, Inhabited

/-- FREE VALUE (R44, R46; log entry 6): the answer to the n-th `BusWrite` of the block at an address when the transport's
script has ended. Nothing constrains it. DESIGN CHOICE (log entry 20): the index is the block's ADDR and its own count of
writes, so blocks at different addresses have unrelated draws, and one block's n-th draw is one value in every run. -/
opaque Config.freeWriteAnswer : BusAddr → Nat → WriteAnswer

/-- FREE VALUE (R45, R46; log entry 6): the answer to the n-th `BusRead` of the block at an address when the transport's
script has ended. Nothing constrains it. DESIGN CHOICE (log entry 20): indexed as `Config.freeWriteAnswer` is. -/
opaque Config.freeReadAnswer : BusAddr → Nat → ReadAnswer

end Sys2Proof
end

