-- ==== Sys2Proof/WellFormed.lean ====
section
/-! DEFINITION. What makes a term meaningful: a request's operands (spec/30_encoding.md R71) and an opcode table
(spec/40_command_encoder.md R80, R110). An `Instr` has typed operands only and is well formed by construction. -/

namespace Sys2Proof

/-- `cs` and `rep` mean something only for MEASURE; for the other operations they are `Disabled` and `High`, the only legal
values there (R24, R71). -/
def Request.wellFormed (q : Request) : Bool :=
  match q.op with
  | .measure => true
  | .reset | .status | .clearStatus => q.cs == .disabled && q.rep == .high

/-- What a claim may assume of `CMD_OPCODE` and nothing more: it is injective, and SingleShot(Enabled, High) has the word
0x2C06 (R80, D5). -/
def OpcodeTable.legal (t : OpcodeTable) : Bool :=
  decide t.words.Nodup && t.ssStretchHigh == 0x2C06

/-- The request an instruction spells, if it is a host request (R71). -/
def Instr.request? : Instr → Option Request
  | .cmdSsStretchHigh => none
  | .cmdSsStretchMedium => none
  | .cmdSsStretchLow => none
  | .cmdSsNostretchHigh => none
  | .cmdSsNostretchMedium => none
  | .cmdSsNostretchLow => none
  | .cmdPeriodic0p5High => none
  | .cmdPeriodic0p5Medium => none
  | .cmdPeriodic0p5Low => none
  | .cmdPeriodic1High => none
  | .cmdPeriodic1Medium => none
  | .cmdPeriodic1Low => none
  | .cmdPeriodic2High => none
  | .cmdPeriodic2Medium => none
  | .cmdPeriodic2Low => none
  | .cmdPeriodic4High => none
  | .cmdPeriodic4Medium => none
  | .cmdPeriodic4Low => none
  | .cmdPeriodic10High => none
  | .cmdPeriodic10Medium => none
  | .cmdPeriodic10Low => none
  | .cmdFetchData => none
  | .cmdArt => none
  | .cmdBreak => none
  | .cmdSoftReset => none
  | .cmdHeaterEnable => none
  | .cmdHeaterDisable => none
  | .cmdReadStatus => none
  | .cmdClearStatus => none
  | .measure cs rep => some ⟨.measure, cs, rep⟩
  | .reset => some ⟨.reset, .disabled, .high⟩
  | .status => some ⟨.status, .disabled, .high⟩
  | .clearStatus => some ⟨.clearStatus, .disabled, .high⟩

/-- A host request is well formed when its record is; a command word has no operands (R60). -/
def Instr.wellFormed (i : Instr) : Bool :=
  i.request?.all Request.wellFormed

end Sys2Proof
end

