-- ==== Sys2Proof/Decode.lean ====
section
/-! DEFINITION. Decoding and encoding (spec/30_encoding.md R60–R74, spec/40_command_encoder.md): the encoder ENC with its
default table, the host request decoder, the decoder of command words, and the encoders back. Total on every word and on
every list of bytes; a refusal has a name. -/

namespace Sys2Proof

/-- `w[15:8]`. -/
def hiByte (w : Word16) : Byte := w.extractLsb' 8 8

/-- `w[7:0]`. -/
def loByte (w : Word16) : Byte := w.extractLsb' 0 8

/-- `{hi, lo}`: big-endian, the most significant byte first (R41, R48). -/
def joinBytes (hi lo : Byte) : Word16 := hi ++ lo

/-- The default of `CMD_OPCODE` (R63, D5). Only 0x2C06 is the source's; the other 28 words are the spec's defaults from
general knowledge (G1). PRESUMED (log entry 2). Unsafe for claims about exact bus bytes. -/
def OpcodeTable.sht3x : OpcodeTable where
  ssStretchHigh := 0x2C06
  ssStretchMedium := 0x2C0D
  ssStretchLow := 0x2C10
  ssNostretchHigh := 0x2400
  ssNostretchMedium := 0x240B
  ssNostretchLow := 0x2416
  periodic0p5High := 0x2032
  periodic0p5Medium := 0x2024
  periodic0p5Low := 0x202F
  periodic1High := 0x2130
  periodic1Medium := 0x2126
  periodic1Low := 0x212D
  periodic2High := 0x2236
  periodic2Medium := 0x2220
  periodic2Low := 0x222B
  periodic4High := 0x2334
  periodic4Medium := 0x2322
  periodic4Low := 0x2329
  periodic10High := 0x2737
  periodic10Medium := 0x2721
  periodic10Low := 0x272A
  fetchData := 0xE000
  artPeriodic := 0x2B32
  breakPeriodic := 0x3093
  softReset := 0x30A2
  heaterEnable := 0x306D
  heaterDisable := 0x3066
  readStatus := 0xF32D
  clearStatus := 0x3041

/-- `ENC : Command → u16` over a table (R62, R80): total, no wildcard arm, no fallback word. -/
def OpcodeTable.enc (t : OpcodeTable) : Command → Word16
  | .singleShot .enabled .high => t.ssStretchHigh
  | .singleShot .enabled .medium => t.ssStretchMedium
  | .singleShot .enabled .low => t.ssStretchLow
  | .singleShot .disabled .high => t.ssNostretchHigh
  | .singleShot .disabled .medium => t.ssNostretchMedium
  | .singleShot .disabled .low => t.ssNostretchLow
  | .periodic .p0_5 .high => t.periodic0p5High
  | .periodic .p0_5 .medium => t.periodic0p5Medium
  | .periodic .p0_5 .low => t.periodic0p5Low
  | .periodic .p1 .high => t.periodic1High
  | .periodic .p1 .medium => t.periodic1Medium
  | .periodic .p1 .low => t.periodic1Low
  | .periodic .p2 .high => t.periodic2High
  | .periodic .p2 .medium => t.periodic2Medium
  | .periodic .p2 .low => t.periodic2Low
  | .periodic .p4 .high => t.periodic4High
  | .periodic .p4 .medium => t.periodic4Medium
  | .periodic .p4 .low => t.periodic4Low
  | .periodic .p10 .high => t.periodic10High
  | .periodic .p10 .medium => t.periodic10Medium
  | .periodic .p10 .low => t.periodic10Low
  | .fetchData => t.fetchData
  | .artPeriodic => t.artPeriodic
  | .breakPeriodic => t.breakPeriodic
  | .softReset => t.softReset
  | .heaterEnable => t.heaterEnable
  | .heaterDisable => t.heaterDisable
  | .readStatus => t.readStatus
  | .clearStatus => t.clearStatus

/-- The 29 commands, in the order of R63's rows. -/
def Command.all : List Command :=
  [.singleShot .enabled .high, .singleShot .enabled .medium, .singleShot .enabled .low,
   .singleShot .disabled .high, .singleShot .disabled .medium, .singleShot .disabled .low,
   .periodic .p0_5 .high, .periodic .p0_5 .medium, .periodic .p0_5 .low,
   .periodic .p1 .high, .periodic .p1 .medium, .periodic .p1 .low,
   .periodic .p2 .high, .periodic .p2 .medium, .periodic .p2 .low,
   .periodic .p4 .high, .periodic .p4 .medium, .periodic .p4 .low,
   .periodic .p10 .high, .periodic .p10 .medium, .periodic .p10 .low,
   .fetchData, .artPeriodic, .breakPeriodic,
   .softReset, .heaterEnable, .heaterDisable,
   .readStatus, .clearStatus]

/-- The row of the opcode table that stands for a command (R63). -/
def Instr.ofCommand : Command → Instr
  | .singleShot .enabled .high => .cmdSsStretchHigh
  | .singleShot .enabled .medium => .cmdSsStretchMedium
  | .singleShot .enabled .low => .cmdSsStretchLow
  | .singleShot .disabled .high => .cmdSsNostretchHigh
  | .singleShot .disabled .medium => .cmdSsNostretchMedium
  | .singleShot .disabled .low => .cmdSsNostretchLow
  | .periodic .p0_5 .high => .cmdPeriodic0p5High
  | .periodic .p0_5 .medium => .cmdPeriodic0p5Medium
  | .periodic .p0_5 .low => .cmdPeriodic0p5Low
  | .periodic .p1 .high => .cmdPeriodic1High
  | .periodic .p1 .medium => .cmdPeriodic1Medium
  | .periodic .p1 .low => .cmdPeriodic1Low
  | .periodic .p2 .high => .cmdPeriodic2High
  | .periodic .p2 .medium => .cmdPeriodic2Medium
  | .periodic .p2 .low => .cmdPeriodic2Low
  | .periodic .p4 .high => .cmdPeriodic4High
  | .periodic .p4 .medium => .cmdPeriodic4Medium
  | .periodic .p4 .low => .cmdPeriodic4Low
  | .periodic .p10 .high => .cmdPeriodic10High
  | .periodic .p10 .medium => .cmdPeriodic10Medium
  | .periodic .p10 .low => .cmdPeriodic10Low
  | .fetchData => .cmdFetchData
  | .artPeriodic => .cmdArt
  | .breakPeriodic => .cmdBreak
  | .softReset => .cmdSoftReset
  | .heaterEnable => .cmdHeaterEnable
  | .heaterDisable => .cmdHeaterDisable
  | .readStatus => .cmdReadStatus
  | .clearStatus => .cmdClearStatus

/-- The command a row of the opcode table stands for (R63); none for the four host requests. -/
def Instr.command? : Instr → Option Command
  | .cmdSsStretchHigh => some (.singleShot .enabled .high)
  | .cmdSsStretchMedium => some (.singleShot .enabled .medium)
  | .cmdSsStretchLow => some (.singleShot .enabled .low)
  | .cmdSsNostretchHigh => some (.singleShot .disabled .high)
  | .cmdSsNostretchMedium => some (.singleShot .disabled .medium)
  | .cmdSsNostretchLow => some (.singleShot .disabled .low)
  | .cmdPeriodic0p5High => some (.periodic .p0_5 .high)
  | .cmdPeriodic0p5Medium => some (.periodic .p0_5 .medium)
  | .cmdPeriodic0p5Low => some (.periodic .p0_5 .low)
  | .cmdPeriodic1High => some (.periodic .p1 .high)
  | .cmdPeriodic1Medium => some (.periodic .p1 .medium)
  | .cmdPeriodic1Low => some (.periodic .p1 .low)
  | .cmdPeriodic2High => some (.periodic .p2 .high)
  | .cmdPeriodic2Medium => some (.periodic .p2 .medium)
  | .cmdPeriodic2Low => some (.periodic .p2 .low)
  | .cmdPeriodic4High => some (.periodic .p4 .high)
  | .cmdPeriodic4Medium => some (.periodic .p4 .medium)
  | .cmdPeriodic4Low => some (.periodic .p4 .low)
  | .cmdPeriodic10High => some (.periodic .p10 .high)
  | .cmdPeriodic10Medium => some (.periodic .p10 .medium)
  | .cmdPeriodic10Low => some (.periodic .p10 .low)
  | .cmdFetchData => some .fetchData
  | .cmdArt => some .artPeriodic
  | .cmdBreak => some .breakPeriodic
  | .cmdSoftReset => some .softReset
  | .cmdHeaterEnable => some .heaterEnable
  | .cmdHeaterDisable => some .heaterDisable
  | .cmdReadStatus => some .readStatus
  | .cmdClearStatus => some .clearStatus
  | .measure _ _ => none
  | .reset => none
  | .status => none
  | .clearStatus => none

/-- Why a word spells no instruction. -/
inductive DecodeError
  /-- `REQ[7:5]` is not 0b000 (R71). -/
  | reservedBits (w : Byte)
  /-- MEASURE with `REQ[4:3]` = 0b11 (R71). -/
  | reservedRepeatability (w : Byte)
  /-- RESET, STATUS or CLEAR_STATUS with `REQ[4:2]` not 0 (R71). -/
  | operandGiven (w : Byte)
  /-- A 16-bit word that is no command of the table (R64). -/
  | notACommand (w : Word16)
deriving DecidableEq, Repr

/-- What can be presented to the block: an 8-bit host request word (R70), or, to the encoder, the 16-bit word of a logical
command (R60; log entry 7). -/
inductive HostWord
  | request (w : Byte)
  | command (w : Word16)
deriving DecidableEq, Repr

/-- Clock-stretch mode from `REQ[2]`: 1 is Enabled (R70, R71). -/
def stretchOfBit (c : Bool) : ClockStretch :=
  if c then .enabled else .disabled

/-- Repeatability from `REQ[4:3]`; 0b11 is reserved (R70, R71). -/
def repOfField (r : BitVec 2) : Option Repeatability :=
  if r = 0b00 then some .high else if r = 0b01 then some .medium else if r = 0b10 then some .low else none

/-- `decodeReq` (R71). -/
def decodeReq (w : Byte) : Except DecodeError Request :=
  if w.extractLsb' 5 3 ≠ 0 then .error (.reservedBits w)
  else
    let op : BitVec 2 := w.extractLsb' 0 2
    let r : BitVec 2 := w.extractLsb' 3 2
    let operands : BitVec 3 := w.extractLsb' 2 3
    if op = 0b00 then
      match repOfField r with
      | none => .error (.reservedRepeatability w)
      | some rep => .ok ⟨.measure, stretchOfBit (w.getLsbD 2), rep⟩
    else if operands ≠ 0 then .error (.operandGiven w)
    else if op = 0b01 then .ok ⟨.reset, .disabled, .high⟩
    else if op = 0b10 then .ok ⟨.status, .disabled, .high⟩
    else .ok ⟨.clearStatus, .disabled, .high⟩

/-- The row of the opcode table that a request belongs to (R70). -/
def Instr.ofRequest (q : Request) : Instr :=
  match q.op with
  | .measure => .measure q.cs q.rep
  | .reset => .reset
  | .status => .status
  | .clearStatus => .clearStatus

/-- A decoder of command words matches all 16 bits (R60): the command whose word in the table is `w`. -/
def decodeCommand (t : OpcodeTable) (w : Word16) : Except DecodeError Command :=
  match Command.all.find? (fun c => t.enc c == w) with
  | some c => .ok c
  | none => .error (.notACommand w)

/-- The decoder: the instruction a presented word spells under the opcode table `t`, or the name of the refusal. -/
def decode (t : OpcodeTable) : HostWord → Except DecodeError Instr
  | .request w => (decodeReq w).map Instr.ofRequest
  | .command w => (decodeCommand t w).map Instr.ofCommand

/-- The field `c` of a request (R70). -/
def stretchBit (cs : ClockStretch) : BitVec 1 :=
  match cs with
  | .enabled => 1
  | .disabled => 0

/-- The field `r` of a request (R70). -/
def repField (rep : Repeatability) : BitVec 2 :=
  match rep with
  | .high => 0b00
  | .medium => 0b01
  | .low => 0b10

/-- The field `op` of a request (R70). -/
def opField (op : Op) : BitVec 2 :=
  match op with
  | .measure => 0b00
  | .reset => 0b01
  | .status => 0b10
  | .clearStatus => 0b11

/-- The request word `{0b000, r, c, op}` (R70, R170). -/
def encodeReq (q : Request) : Byte :=
  (0b000 : BitVec 3) ++ repField q.rep ++ stretchBit q.cs ++ opField q.op

/-- The command word of a command, as it is presented. -/
def encodeCommandWord (t : OpcodeTable) (c : Command) : HostWord :=
  .command (t.enc c)

/-- The encoder: the word of an instruction under the opcode table `t` (R63, R70). -/
def encode (t : OpcodeTable) : Instr → HostWord
  | .cmdSsStretchHigh => encodeCommandWord t (.singleShot .enabled .high)
  | .cmdSsStretchMedium => encodeCommandWord t (.singleShot .enabled .medium)
  | .cmdSsStretchLow => encodeCommandWord t (.singleShot .enabled .low)
  | .cmdSsNostretchHigh => encodeCommandWord t (.singleShot .disabled .high)
  | .cmdSsNostretchMedium => encodeCommandWord t (.singleShot .disabled .medium)
  | .cmdSsNostretchLow => encodeCommandWord t (.singleShot .disabled .low)
  | .cmdPeriodic0p5High => encodeCommandWord t (.periodic .p0_5 .high)
  | .cmdPeriodic0p5Medium => encodeCommandWord t (.periodic .p0_5 .medium)
  | .cmdPeriodic0p5Low => encodeCommandWord t (.periodic .p0_5 .low)
  | .cmdPeriodic1High => encodeCommandWord t (.periodic .p1 .high)
  | .cmdPeriodic1Medium => encodeCommandWord t (.periodic .p1 .medium)
  | .cmdPeriodic1Low => encodeCommandWord t (.periodic .p1 .low)
  | .cmdPeriodic2High => encodeCommandWord t (.periodic .p2 .high)
  | .cmdPeriodic2Medium => encodeCommandWord t (.periodic .p2 .medium)
  | .cmdPeriodic2Low => encodeCommandWord t (.periodic .p2 .low)
  | .cmdPeriodic4High => encodeCommandWord t (.periodic .p4 .high)
  | .cmdPeriodic4Medium => encodeCommandWord t (.periodic .p4 .medium)
  | .cmdPeriodic4Low => encodeCommandWord t (.periodic .p4 .low)
  | .cmdPeriodic10High => encodeCommandWord t (.periodic .p10 .high)
  | .cmdPeriodic10Medium => encodeCommandWord t (.periodic .p10 .medium)
  | .cmdPeriodic10Low => encodeCommandWord t (.periodic .p10 .low)
  | .cmdFetchData => encodeCommandWord t .fetchData
  | .cmdArt => encodeCommandWord t .artPeriodic
  | .cmdBreak => encodeCommandWord t .breakPeriodic
  | .cmdSoftReset => encodeCommandWord t .softReset
  | .cmdHeaterEnable => encodeCommandWord t .heaterEnable
  | .cmdHeaterDisable => encodeCommandWord t .heaterDisable
  | .cmdReadStatus => encodeCommandWord t .readStatus
  | .cmdClearStatus => encodeCommandWord t .clearStatus
  | .measure cs rep => .request (encodeReq ⟨.measure, cs, rep⟩)
  | .reset => .request (encodeReq ⟨.reset, .disabled, .high⟩)
  | .status => .request (encodeReq ⟨.status, .disabled, .high⟩)
  | .clearStatus => .request (encodeReq ⟨.clearStatus, .disabled, .high⟩)

/-- The bytes of a presented word: a request is one byte (R70), a command word two, high byte first (R41). -/
def HostWord.bytes : HostWord → List Byte
  | .request w => [w]
  | .command w => [hiByte w, loByte w]

/-- The word that a list of bytes is: one byte is a request word, two a command word; no other length is a word of this
block (R49, R60). -/
def HostWord.ofBytes : List Byte → Option HostWord
  | [w] => some (.request w)
  | [hi, lo] => some (.command (joinBytes hi lo))
  | _ => none

/-- The decoder on bytes; total, and none where the bytes spell no instruction. -/
def decodeBytes (t : OpcodeTable) (bs : List Byte) : Option Instr :=
  match HostWord.ofBytes bs with
  | some w => (decode t w).toOption
  | none => none

/-- The bytes of the opcode table's row word: an 8-bit row is one byte, a 16-bit row two bytes, big-endian (R41, R70). -/
def tableBytes (nbits w : Nat) : List Byte :=
  if nbits = 8 then [BitVec.ofNat 8 w]
  else if nbits = 16 then [hiByte (BitVec.ofNat 16 w), loByte (BitVec.ofNat 16 w)]
  else []

/-- What this decoder reads from a row's word, numbered as spec/opcode_table.json numbers it, under the default table. -/
def decodeTableWord (nbits w : Nat) : Option Instr :=
  decodeBytes OpcodeTable.sht3x (tableBytes nbits w)

/-- `<cs>` in the request syntax (R74). -/
def stretchText (cs : ClockStretch) : String :=
  match cs with
  | .enabled => "stretch"
  | .disabled => "nostretch"

/-- `<rep>` in the request syntax (R74). -/
def repText (rep : Repeatability) : String :=
  match rep with
  | .high => "high"
  | .medium => "medium"
  | .low => "low"

/-- A request in the syntax of R74, one line. -/
def requestText (q : Request) : String :=
  match q.op with
  | .measure => "MEASURE " ++ stretchText q.cs ++ ", " ++ repText q.rep
  | .reset => "RESET"
  | .status => "STATUS"
  | .clearStatus => "CLEAR_STATUS"

/-- The nine requests that have a request word (R71). -/
def Request.all : List Request :=
  [⟨.measure, .disabled, .high⟩, ⟨.measure, .enabled, .high⟩, ⟨.measure, .disabled, .medium⟩,
   ⟨.measure, .enabled, .medium⟩, ⟨.measure, .disabled, .low⟩, ⟨.measure, .enabled, .low⟩,
   ⟨.reset, .disabled, .high⟩, ⟨.status, .disabled, .high⟩, ⟨.clearStatus, .disabled, .high⟩]

/-- The request a line of R74's syntax spells; a line spelt otherwise spells none. -/
def requestOfText (line : String) : Option Request :=
  Request.all.find? (fun q => requestText q == line)

end Sys2Proof
end

