-- ==== Sys2Proof/Machine/Convert.lean ====
section
/-! DEFINITION. The ADC-to-physical-units converter (spec/42_converter.md R130–R134), in exact integer arithmetic (R7).
The divisor is 65535, as spec/90_conflicts.md C1 decides; nothing is clamped (R132). -/

namespace Sys2Proof.Machine

/-- `CONV_DIV` (R5, C1, D7). -/
def convDiv : Nat := 65535

/-- `T_OFFSET` in centidegrees (R5). -/
def tOffset : Int := -4500

/-- `T_SPAN` in centidegrees (R5). -/
def tSpan : Nat := 17500

/-- `RH_SPAN` in centipercent (R5). -/
def rhSpan : Nat := 10000

/-- `CONV_T` in centidegrees: the product is divided first and the offset added afterwards; an `i32` (R130). -/
def convT (raw : Word16) : Word32 :=
  BitVec.ofInt 32 (tOffset + ((tSpan * raw.toNat / convDiv : Nat) : Int))

/-- `CONV_RH` in centipercent: the product is formed exactly, then narrowed to 16 bits (R131). -/
def convRH (raw : Word16) : Word16 :=
  BitVec.ofNat 16 (rhSpan * raw.toNat / convDiv)

end Sys2Proof.Machine
end

