-- ==== Sys2Proof/Machine/Crc.lean ====
section
/-! DEFINITION. The CRC-8 validator (spec/41_crc8.md R120–R123): stateless, one accumulator per group. -/

namespace Sys2Proof.Machine

/-- `CRC_INIT` (R5, R120). -/
def crcInit : Byte := 0xFF

/-- `CRC_POLY` (R5, R120). -/
def crcPoly : Byte := 0x31

/-- One round (R120): shift left one within 8 bits, and XOR the polynomial in if bit 7 was set. -/
def crcRound (c : Byte) : Byte :=
  if c.getLsbD 7 then (c <<< 1) ^^^ crcPoly else c <<< 1

/-- `n` rounds. -/
def crcRounds : Nat → Byte → Byte
  | 0, c => c
  | n + 1, c => crcRounds n (crcRound c)

/-- One byte into the accumulator: XOR, then eight rounds (R120). -/
def crcByte (c b : Byte) : Byte :=
  crcRounds 8 (c ^^^ b)

/-- `CRC8` of a 2-byte payload, MSB first (R120). -/
def crc8 (d0 d1 : Byte) : Byte :=
  crcByte (crcByte crcInit d0) d1

/-- A response group: two data bytes and their check byte, in bus order (R9, R42, R43). -/
structure Group where
  d0 : Byte
  d1 : Byte
  crc : Byte
deriving DecidableEq, Repr

/-- `VALID`: all eight bits of the check byte are compared (R121). -/
def groupValid (g : Group) : Bool :=
  crc8 g.d0 g.d1 == g.crc

/-- The data word of a group, big-endian (R42, R43, R48). -/
def groupWord (g : Group) : Word16 :=
  joinBytes g.d0 g.d1

end Sys2Proof.Machine
end

