-- ==== Sys2Proof/Machine/Flags.lean ====
section
/-! DEFINITION. The status-register decoder (spec/43_status_decoder.md): the flag view of the sensor's status word and the
seven flag accessors. The block itself has no condition flags (spec/10_state.md R22). -/

namespace Sys2Proof.Machine

/-- `STATUS_KNOWN_MASK`: bits 15, 13, 11, 10, 4, 1 and 0 (R5, R140). -/
def statusKnownMask : Word16 := 0xAC13

/-- `DECODE_STATUS` (R141): reserved bits are masked to 0 in the view the host receives (R149). -/
def decodeStatus (raw : Word16) : Word16 :=
  raw &&& statusKnownMask

/-- `ALERT_PENDING`, bit 15 (R142). -/
def alertPending (f : Word16) : Bool := f.getLsbD 15

/-- `HEATER_ON`, bit 13 (R143). -/
def heaterOn (f : Word16) : Bool := f.getLsbD 13

/-- `RH_TRACKING_ALERT`, bit 11 (R144). -/
def rhTrackingAlert (f : Word16) : Bool := f.getLsbD 11

/-- `T_TRACKING_ALERT`, bit 10 (R145). -/
def tTrackingAlert (f : Word16) : Bool := f.getLsbD 10

/-- `SYSTEM_RESET_DETECTED`, bit 4 (R146). -/
def systemResetDetected (f : Word16) : Bool := f.getLsbD 4

/-- `LAST_COMMAND_STATUS`, bit 1 (R147). -/
def lastCommandStatus (f : Word16) : Bool := f.getLsbD 1

/-- `WRITE_CHECKSUM_STATUS`, bit 0 (R148). -/
def writeChecksumStatus (f : Word16) : Bool := f.getLsbD 0

end Sys2Proof.Machine
end

