-- ==== Sys2Proof/Machine/Operands.lean ====
section
/-! DEFINITION. What an operand selects: the bus address from ADDR_SEL (spec/10_state.md R20), the command an operation sends
(spec/44_transactions.md R168), its wait and its response length (R167), and the frame of a command word (R41). -/

namespace Sys2Proof.Machine

/-- `ADDR = 0x44 + ADDR_SEL`: 0x44 with the address pin low, 0x45 with it high (R20, R30). -/
def busAddress (sel : BitVec 1) : BusAddr :=
  0x44 + sel.setWidth 7

/-- `[w[15:8], w[7:0]]`: byte 0 on the bus is the high byte; no CRC byte (R41). -/
def frameOf (w : Word16) : Frame :=
  ⟨hiByte w, loByte w⟩

/-- `OPC`: the command a request sends (R168). -/
def opc (q : Request) : Command :=
  match q.op with
  | .measure => .singleShot q.cs q.rep
  | .reset => .softReset
  | .status => .readStatus
  | .clearStatus => .clearStatus

/-- `WAIT_FLOOR_MS`, the command-wait floor (R5). -/
def waitFloorMs : Nat := 1

/-- `RESET_SETTLE_MS`, the soft-reset settle time (R5). -/
def resetSettleMs : Nat := 1

/-- `REP_WAIT_MS`: Low 4, Medium 6, High 15 (R5). -/
def repWaitMs (rep : Repeatability) : Nat :=
  match rep with
  | .low => 4
  | .medium => 6
  | .high => 15

/-- `WAIT` in milliseconds (R167). -/
def waitOf (q : Request) : Word32 :=
  match q.op with
  | .measure => BitVec.ofNat 32 (max waitFloorMs (repWaitMs q.rep))
  | .reset => BitVec.ofNat 32 resetSettleMs
  | .status => BitVec.ofNat 32 waitFloorMs
  | .clearStatus => BitVec.ofNat 32 waitFloorMs

/-- `LEN`, the response length of an operation (R167). -/
def lenOf (op : Op) : RxLen :=
  match op with
  | .measure => .six
  | .reset => .zero
  | .status => .three
  | .clearStatus => .zero

/-- RXLEN in bytes (R27): `MEAS_RSP_LEN` is 6 and `STATUS_RSP_LEN` is 3 (R5). -/
def rxBytes (n : RxLen) : Nat :=
  match n with
  | .zero => 0
  | .three => 3
  | .six => 6

end Sys2Proof.Machine
end

