-- ==== Sys2Proof/Machine/State.lean ====
section
/-! DEFINITION. The state (spec/10_state.md), the trace's events (spec/20_memory.md R50), the results (R28), the reasons a
step can stop, and the state after block reset (R30, R220). The block has no memory, so State holds no memory cells. -/

namespace Sys2Proof.Machine

/-- PHASE, the sequencer's control state (R23). -/
inductive Phase
  | idle
  | write
  | delay
  | read
  | check
  | respond
deriving DecidableEq, Repr

/-- The two error kinds, and no other (R200, R201, R202). -/
inductive OpError
  /-- A validated group's checksum did not match; no value is recorded (R200). -/
  | crc
  /-- The transport failed; its own detail is passed on unchanged (R201). -/
  | bus (e : TransportError)
deriving DecidableEq, Repr

/-- The value of a successful operation (R28). -/
inductive Reply
  /-- `Meas`: temperature in hundredths of a degree Celsius, an `i32`; humidity in hundredths of a percent (R28, R134). -/
  | meas (temperature : Word32) (humidity : Word16)
  /-- `Status`: the flag view of the status word (R141). -/
  | status (flags : Word16)
  /-- `()`: RESET and CLEAR_STATUS. -/
  | unit
deriving DecidableEq, Repr

/-- A value of RESULT (R28, R9). -/
inductive Result
  | ok (v : Reply)
  | err (e : OpError)
deriving DecidableEq, Repr

/-- The answer of a `BusRead` as the trace records it: exactly the bytes read, or a failure (R45, R50). -/
inductive ReadReply
  | ok (bytes : List Byte)
  | err (e : TransportError)
deriving DecidableEq, Repr

/-- An event of the trace (R50). -/
inductive Event
  /-- `W(addr, [b0, b1]) → ans`. -/
  | write (addr : BusAddr) (frame : Frame) (ans : WriteAnswer)
  /-- `D(ms)`. -/
  | delay (ms : Word32)
  /-- `R(addr, n) → ans`. -/
  | read (addr : BusAddr) (n : Nat) (ans : ReadReply)
deriving DecidableEq, Repr

/-- The block's state, the record a model keeps of a run, and the environment as plain data. -/
structure State where
  /-- The inputs fixed at construction: ADDR_SEL and CMD_OPCODE (R5). No step writes them. -/
  cfg : Config
  /-- ADDR (R20). -/
  addr : BusAddr
  /-- PHASE (R23). -/
  phase : Phase
  /-- CUR (R24). -/
  cur : Request
  /-- TXBUF (R25). -/
  txbuf : Frame
  /-- WAIT_MS (R26). -/
  waitMs : Word32
  /-- RXLEN (R27). -/
  rxlen : RxLen
  /-- RXBUF: six cells, each a byte or no value (R27). -/
  rxbuf : Vector (Option Byte) 6
  /-- RESULT: a result or no value (R28). -/
  result : Option Result
  /-- The trace, oldest event first (R50). -/
  trace : List Event
  /-- The refusal marks of the run, oldest first (R72). -/
  refusals : List DecodeError
  /-- The model's record of the results the host has taken, oldest first (log entry 13). -/
  taken : List Result
  /-- Host: the words it presents, the one presented now first (R160, R174; log entry 7). The next word is presented as soon
  as the one before it leaves, and a waiting word is not withdrawn: DESIGN CHOICE, log entry 19. -/
  hostPort : List HostWord
  /-- Host: whether it takes RESULT at this RESPOND step, at the next, … (R166; log entry 8). -/
  hostTakes : List Bool
  /-- Environment: the block-reset input, sampled once a step (R221; log entry 9). -/
  resetLine : List Bool
  /-- Transport: its scripted answers to `BusWrite`, in order (R44; log entry 6). -/
  writeAnswers : List WriteAnswer
  /-- Transport: its scripted answers to `BusRead`, in order (R45; log entry 6). -/
  readAnswers : List ReadAnswer
  /-- How many `BusWrite`s were issued: with ADDR the index of a free answer (log entries 6 and 20). -/
  writesDrawn : Nat
  /-- How many `BusRead`s were issued: with ADDR the index of a free answer (log entries 6 and 20). -/
  readsDrawn : Nat
deriving DecidableEq, Repr

/-- Why a step stops with a fault. No rule of the spec reaches any of them from reset. -/
inductive Fault
  /-- Raised by CHECK when it reads an RXBUF cell that holds no value (R27, D25, I11). Safe: the machine stops. -/
  | noValueCell
  /-- Raised by CHECK when CUR is RESET or CLEAR_STATUS, which have no response; R164 says CHECK is never reached for them
  (log entry 14). Safe: the machine stops. -/
  | checkWithoutResponse
  /-- Raised by RESPOND when RESULT holds no value; R28 says it holds one there (log entry 14). Safe: the machine stops. -/
  | respondWithoutResult
deriving DecidableEq, Repr

/-- Why an instruction or a configuration has no meaning. -/
inductive Refusal
  /-- Raised by exec's arm of an instruction that has no meaning yet; no arm does. Safe: the machine stops. -/
  | notModelled (mnemonic : String)
  /-- Raised by `systemStep` where two blocks of one bus have the same ADDR, a configuration the spec gives no meaning (R210,
  D15, I15). No step of one block raises it. Safe: the machine stops. -/
  | duplicateAddress (addr : BusAddr)
deriving DecidableEq, Repr

/-- RXBUF with every cell at no value (R27, R30). -/
def emptyRx : Vector (Option Byte) 6 := #v[none, none, none, none, none, none]

/-- The block right after block reset (R30, R220), constructed with the inputs `cfg`. ADDR, PHASE, RXBUF and RESULT as R30
says; CUR, TXBUF, WAIT_MS and RXLEN are unspecified there and hold the values log entry 4 names (DESIGN CHOICE). The trace is
empty, and the environment offers nothing. -/
def State.construct (cfg : Config) : State where
  cfg := cfg
  addr := busAddress cfg.addrSel
  phase := .idle
  cur := ⟨.measure, .disabled, .high⟩
  txbuf := ⟨0, 0⟩
  waitMs := 0
  rxlen := .zero
  rxbuf := emptyRx
  result := none
  trace := []
  refusals := []
  taken := []
  hostPort := []
  hostTakes := []
  resetLine := []
  writeAnswers := []
  readAnswers := []
  writesDrawn := 0
  readsDrawn := 0

/-- The machine right after reset, with the address pin low (DESIGN CHOICE, log entry 3) and the default opcode table
(PRESUMED, log entry 2). -/
def State.reset : State :=
  State.construct ⟨0, OpcodeTable.sht3x⟩

end Sys2Proof.Machine
end

