-- ==== Sys2Proof/Machine/Ops.lean ====
section
/-! DEFINITION. The named operations on State: the encoder, accepting a request, the transport's answers, error entry and
its return (spec/60_exceptions.md R204, R205), block reset (spec/70_reset_and_hazards.md R220, R221) and refusal marks. -/

namespace Sys2Proof.Machine

/-- What a step answers. -/
abbrev Outcome := Host.Outcome State Fault Refusal

/-- ENC into TXBUF (R80): the frame of the command's word. Nothing else is written. -/
def encodeInto (c : Command) (s : State) : State :=
  { s with txbuf := frameOf (s.cfg.cmdOpcode.enc c) }

/-- *Accept* in IDLE (R160). -/
def accept (q : Request) (s : State) : State :=
  { s with
    cur := q
    txbuf := frameOf (s.cfg.cmdOpcode.enc (opc q))
    waitMs := waitOf q
    rxlen := lenOf q.op
    rxbuf := emptyRx
    result := none
    phase := .write }

/-- A host request: accepted in IDLE (R160); in any other phase it waits and nothing changes (R174; log entry 16). -/
def request (q : Request) (s : State) : State :=
  match s.phase with
  | .idle => accept q s
  | .write | .delay | .read | .check | .respond => s

/-- An event is appended to the trace (R50). -/
def record (e : Event) (s : State) : State :=
  { s with trace := s.trace ++ [e] }

/-- `PHASE <- p` (R23). -/
def enter (p : Phase) (s : State) : State :=
  { s with phase := p }

/-- `respond(v)`: RESULT takes the value and the block offers it (R8, R162, R165, R172). -/
def respond (v : Reply) (s : State) : State :=
  { s with result := some (.ok v), phase := .respond }

/-- ERROR ENTRY (R204): RESULT <- Err(…) and PHASE <- RESPOND, and nothing else. -/
def raiseError (e : OpError) (s : State) : State :=
  { s with result := some (.err e), phase := .respond }

/-- RETURN (R166, R205): the host takes the result, RESULT has no value again (R28), and the block is IDLE. -/
def release (r : Result) (s : State) : State :=
  { s with result := none, phase := .idle, taken := s.taken ++ [r] }

/-- The transport's answer to the `BusWrite` issued now: the script's next, or a free value past its end (R44; log
entries 6 and 20). -/
def writeAnswer (s : State) : WriteAnswer :=
  s.writeAnswers.headD (Config.freeWriteAnswer s.addr s.writesDrawn)

/-- One `BusWrite` has been answered. -/
def advanceWrite (s : State) : State :=
  { s with writeAnswers := s.writeAnswers.tail, writesDrawn := s.writesDrawn + 1 }

/-- The transport's answer to the `BusRead` issued now: the script's next, or a free value past its end (R45, R46;
log entries 6 and 20). -/
def readAnswer (s : State) : ReadAnswer :=
  s.readAnswers.headD (Config.freeReadAnswer s.addr s.readsDrawn)

/-- One `BusRead` has been answered. -/
def advanceRead (s : State) : State :=
  { s with readAnswers := s.readAnswers.tail, readsDrawn := s.readsDrawn + 1 }

/-- What the trace records of an answer to a read of `n` bytes: exactly `n` bytes, or the failure (R45, R50). -/
def readReply (n : Nat) (a : ReadAnswer) : ReadReply :=
  match a with
  | .ok bytes => .ok (bytes.toList.take n)
  | .err e => .err e

/-- `RXBUF[i] <- bytes[i]` for `0 ≤ i < n` (R163); the other cells keep what they hold. -/
def fillRx (n : Nat) (bytes : Vector Byte 6) (buf : Vector (Option Byte) 6) : Vector (Option Byte) 6 :=
  Vector.ofFn fun i => if i.val < n then some bytes[i] else buf[i]

/-- A successful read's bytes are placed in RXBUF (R163). -/
def storeRx (n : Nat) (bytes : Vector Byte 6) (s : State) : State :=
  { s with rxbuf := fillRx n bytes s.rxbuf }

/-- The first group of the response, cells 0 to 2 (R42, R43); none if a cell holds no value. -/
def firstGroup (buf : Vector (Option Byte) 6) : Option Group :=
  match buf[0], buf[1], buf[2] with
  | some d0, some d1, some c => some ⟨d0, d1, c⟩
  | _, _, _ => none

/-- The second group of the response, cells 3 to 5 (R42); none if a cell holds no value. -/
def secondGroup (buf : Vector (Option Byte) 6) : Option Group :=
  match buf[3], buf[4], buf[5] with
  | some d0, some d1, some c => some ⟨d0, d1, c⟩
  | _, _, _ => none

/-- A presented word that spells no instruction (R72): PHASE, the trace and RESULT stay, and the run gets a mark. -/
def markRefused (e : DecodeError) (s : State) : State :=
  { s with refusals := s.refusals ++ [e] }

/-- Is block reset asserted at this step (R221; log entry 9). Past the end of the line it is not. -/
def resetAsserted (s : State) : Bool :=
  s.resetLine.headD false

/-- One sample of the block-reset input has been used. -/
def tick (s : State) : State :=
  { s with resetLine := s.resetLine.tail }

/-- BLOCK RESET (R220, R221): every piece of the block's state at its reset value; the transaction is abandoned with no
result. The trace keeps what was issued, and the environment is not touched. CUR, TXBUF, WAIT_MS and RXLEN are unspecified
and take log entry 4's values (log entry 5). -/
def blockReset (s : State) : State :=
  { State.construct s.cfg with
    trace := s.trace
    refusals := s.refusals
    taken := s.taken
    hostPort := s.hostPort
    hostTakes := s.hostTakes
    resetLine := s.resetLine
    writeAnswers := s.writeAnswers
    readAnswers := s.readAnswers
    writesDrawn := s.writesDrawn
    readsDrawn := s.readsDrawn }

/-- Does the host take the result offered now (R166; log entry 8). Past the end of its script it takes at once. -/
def hostTakesNow (s : State) : Bool :=
  s.hostTakes.headD true

/-- One RESPOND step of the host's script has been used. -/
def advanceTakes (s : State) : State :=
  { s with hostTakes := s.hostTakes.tail }

end Sys2Proof.Machine
end

