-- ==== Sys2Proof/Machine/Commands.lean ====
section
/-! DEFINITION. The 29 command words (spec/40_command_encoder.md R81–R109), each the encoder on its command: TXBUF takes the
frame of the command's word in CMD_OPCODE, and nothing else changes (R80). -/

namespace Sys2Proof.Machine

/-- `CMD_SS_STRETCH_HIGH` (R81); the default word is 0x2C06. -/
def execCmdSsStretchHigh (s : State) : Outcome := .next (encodeInto (.singleShot .enabled .high) s)

/-- `CMD_SS_STRETCH_MEDIUM` (R82); the default word is 0x2C0D. -/
def execCmdSsStretchMedium (s : State) : Outcome := .next (encodeInto (.singleShot .enabled .medium) s)

/-- `CMD_SS_STRETCH_LOW` (R83); the default word is 0x2C10. -/
def execCmdSsStretchLow (s : State) : Outcome := .next (encodeInto (.singleShot .enabled .low) s)

/-- `CMD_SS_NOSTRETCH_HIGH` (R84); the default word is 0x2400. -/
def execCmdSsNostretchHigh (s : State) : Outcome := .next (encodeInto (.singleShot .disabled .high) s)

/-- `CMD_SS_NOSTRETCH_MEDIUM` (R85); the default word is 0x240B. -/
def execCmdSsNostretchMedium (s : State) : Outcome := .next (encodeInto (.singleShot .disabled .medium) s)

/-- `CMD_SS_NOSTRETCH_LOW` (R86); the default word is 0x2416. -/
def execCmdSsNostretchLow (s : State) : Outcome := .next (encodeInto (.singleShot .disabled .low) s)

/-- `CMD_PERIODIC_0P5_HIGH` (R87); the default word is 0x2032. -/
def execCmdPeriodic0p5High (s : State) : Outcome := .next (encodeInto (.periodic .p0_5 .high) s)

/-- `CMD_PERIODIC_0P5_MEDIUM` (R88); the default word is 0x2024. -/
def execCmdPeriodic0p5Medium (s : State) : Outcome := .next (encodeInto (.periodic .p0_5 .medium) s)

/-- `CMD_PERIODIC_0P5_LOW` (R89); the default word is 0x202F. -/
def execCmdPeriodic0p5Low (s : State) : Outcome := .next (encodeInto (.periodic .p0_5 .low) s)

/-- `CMD_PERIODIC_1_HIGH` (R90); the default word is 0x2130. -/
def execCmdPeriodic1High (s : State) : Outcome := .next (encodeInto (.periodic .p1 .high) s)

/-- `CMD_PERIODIC_1_MEDIUM` (R91); the default word is 0x2126. -/
def execCmdPeriodic1Medium (s : State) : Outcome := .next (encodeInto (.periodic .p1 .medium) s)

/-- `CMD_PERIODIC_1_LOW` (R92); the default word is 0x212D. -/
def execCmdPeriodic1Low (s : State) : Outcome := .next (encodeInto (.periodic .p1 .low) s)

/-- `CMD_PERIODIC_2_HIGH` (R93); the default word is 0x2236. -/
def execCmdPeriodic2High (s : State) : Outcome := .next (encodeInto (.periodic .p2 .high) s)

/-- `CMD_PERIODIC_2_MEDIUM` (R94); the default word is 0x2220. -/
def execCmdPeriodic2Medium (s : State) : Outcome := .next (encodeInto (.periodic .p2 .medium) s)

/-- `CMD_PERIODIC_2_LOW` (R95); the default word is 0x222B. -/
def execCmdPeriodic2Low (s : State) : Outcome := .next (encodeInto (.periodic .p2 .low) s)

/-- `CMD_PERIODIC_4_HIGH` (R96); the default word is 0x2334. -/
def execCmdPeriodic4High (s : State) : Outcome := .next (encodeInto (.periodic .p4 .high) s)

/-- `CMD_PERIODIC_4_MEDIUM` (R97); the default word is 0x2322. -/
def execCmdPeriodic4Medium (s : State) : Outcome := .next (encodeInto (.periodic .p4 .medium) s)

/-- `CMD_PERIODIC_4_LOW` (R98); the default word is 0x2329. -/
def execCmdPeriodic4Low (s : State) : Outcome := .next (encodeInto (.periodic .p4 .low) s)

/-- `CMD_PERIODIC_10_HIGH` (R99); the default word is 0x2737. -/
def execCmdPeriodic10High (s : State) : Outcome := .next (encodeInto (.periodic .p10 .high) s)

/-- `CMD_PERIODIC_10_MEDIUM` (R100); the default word is 0x2721. -/
def execCmdPeriodic10Medium (s : State) : Outcome := .next (encodeInto (.periodic .p10 .medium) s)

/-- `CMD_PERIODIC_10_LOW` (R101); the default word is 0x272A. -/
def execCmdPeriodic10Low (s : State) : Outcome := .next (encodeInto (.periodic .p10 .low) s)

/-- `CMD_FETCH_DATA` (R102); the default word is 0xE000. -/
def execCmdFetchData (s : State) : Outcome := .next (encodeInto .fetchData s)

/-- `CMD_ART` (R103); the default word is 0x2B32. -/
def execCmdArt (s : State) : Outcome := .next (encodeInto .artPeriodic s)

/-- `CMD_BREAK` (R104); the default word is 0x3093. -/
def execCmdBreak (s : State) : Outcome := .next (encodeInto .breakPeriodic s)

/-- `CMD_SOFT_RESET` (R105); the default word is 0x30A2. -/
def execCmdSoftReset (s : State) : Outcome := .next (encodeInto .softReset s)

/-- `CMD_HEATER_ENABLE` (R106); the default word is 0x306D. -/
def execCmdHeaterEnable (s : State) : Outcome := .next (encodeInto .heaterEnable s)

/-- `CMD_HEATER_DISABLE` (R107); the default word is 0x3066. -/
def execCmdHeaterDisable (s : State) : Outcome := .next (encodeInto .heaterDisable s)

/-- `CMD_READ_STATUS` (R108); the default word is 0xF32D. -/
def execCmdReadStatus (s : State) : Outcome := .next (encodeInto .readStatus s)

/-- `CMD_CLEAR_STATUS` (R109); the default word is 0x3041. -/
def execCmdClearStatus (s : State) : Outcome := .next (encodeInto .clearStatus s)

end Sys2Proof.Machine
end

