-- ==== Sys2Proof/Machine/Requests.lean ====
section
/-! DEFINITION. The four host requests (spec/44_transactions.md R170–R173): each is accepted in IDLE (R160) and held in any
other phase (R174); the sequencer's steps (Sequencer.lean) then serve it. -/

namespace Sys2Proof.Machine

/-- `MEASURE cs, rep` (R170). -/
def execMeasure (cs : ClockStretch) (rep : Repeatability) (s : State) : Outcome :=
  .next (request ⟨.measure, cs, rep⟩ s)

/-- `RESET` (R171): a soft reset of the sensor, not of the block. -/
def execReset (s : State) : Outcome :=
  .next (request ⟨.reset, .disabled, .high⟩ s)

/-- `STATUS` (R172). -/
def execStatus (s : State) : Outcome :=
  .next (request ⟨.status, .disabled, .high⟩ s)

/-- `CLEAR_STATUS` (R173). -/
def execClearStatus (s : State) : Outcome :=
  .next (request ⟨.clearStatus, .disabled, .high⟩ s)

end Sys2Proof.Machine
end

