-- ==== Sys2Proof/Machine/Dispatch.lean ====
section
/-! DEFINITION. exec: one arm per constructor of Instr, each one direct call of the instruction's meaning. -/

namespace Sys2Proof.Machine

def exec (i : Instr) (s : State) : Host.Outcome State Fault Refusal :=
  match i with
  | .cmdSsStretchHigh => Sys2Proof.Machine.execCmdSsStretchHigh s
  | .cmdSsStretchMedium => Sys2Proof.Machine.execCmdSsStretchMedium s
  | .cmdSsStretchLow => Sys2Proof.Machine.execCmdSsStretchLow s
  | .cmdSsNostretchHigh => Sys2Proof.Machine.execCmdSsNostretchHigh s
  | .cmdSsNostretchMedium => Sys2Proof.Machine.execCmdSsNostretchMedium s
  | .cmdSsNostretchLow => Sys2Proof.Machine.execCmdSsNostretchLow s
  | .cmdPeriodic0p5High => Sys2Proof.Machine.execCmdPeriodic0p5High s
  | .cmdPeriodic0p5Medium => Sys2Proof.Machine.execCmdPeriodic0p5Medium s
  | .cmdPeriodic0p5Low => Sys2Proof.Machine.execCmdPeriodic0p5Low s
  | .cmdPeriodic1High => Sys2Proof.Machine.execCmdPeriodic1High s
  | .cmdPeriodic1Medium => Sys2Proof.Machine.execCmdPeriodic1Medium s
  | .cmdPeriodic1Low => Sys2Proof.Machine.execCmdPeriodic1Low s
  | .cmdPeriodic2High => Sys2Proof.Machine.execCmdPeriodic2High s
  | .cmdPeriodic2Medium => Sys2Proof.Machine.execCmdPeriodic2Medium s
  | .cmdPeriodic2Low => Sys2Proof.Machine.execCmdPeriodic2Low s
  | .cmdPeriodic4High => Sys2Proof.Machine.execCmdPeriodic4High s
  | .cmdPeriodic4Medium => Sys2Proof.Machine.execCmdPeriodic4Medium s
  | .cmdPeriodic4Low => Sys2Proof.Machine.execCmdPeriodic4Low s
  | .cmdPeriodic10High => Sys2Proof.Machine.execCmdPeriodic10High s
  | .cmdPeriodic10Medium => Sys2Proof.Machine.execCmdPeriodic10Medium s
  | .cmdPeriodic10Low => Sys2Proof.Machine.execCmdPeriodic10Low s
  | .cmdFetchData => Sys2Proof.Machine.execCmdFetchData s
  | .cmdArt => Sys2Proof.Machine.execCmdArt s
  | .cmdBreak => Sys2Proof.Machine.execCmdBreak s
  | .cmdSoftReset => Sys2Proof.Machine.execCmdSoftReset s
  | .cmdHeaterEnable => Sys2Proof.Machine.execCmdHeaterEnable s
  | .cmdHeaterDisable => Sys2Proof.Machine.execCmdHeaterDisable s
  | .cmdReadStatus => Sys2Proof.Machine.execCmdReadStatus s
  | .cmdClearStatus => Sys2Proof.Machine.execCmdClearStatus s
  | .measure cs rep => Sys2Proof.Machine.execMeasure cs rep s
  | .reset => Sys2Proof.Machine.execReset s
  | .status => Sys2Proof.Machine.execStatus s
  | .clearStatus => Sys2Proof.Machine.execClearStatus s

end Sys2Proof.Machine
end

