-- ==== Sys2Proof/Machine/Sequencer.lean ====
section
/-! DEFINITION. The sequencer's steps, one per PHASE value (spec/44_transactions.md R161–R166). -/

namespace Sys2Proof.Machine

/-- *Write* (R161): `BusWrite(ADDR, TXBUF)`. -/
def writeStep (s : State) : Outcome :=
  let ans := writeAnswer s
  let s1 := record (.write s.addr s.txbuf ans) (advanceWrite s)
  match ans with
  | .ok => .next (enter .delay s1)
  | .err e => .next (raiseError (.bus e) s1)

/-- *Delay* (R162): `Delay(WAIT_MS)`, which always completes (R47). -/
def delayStep (s : State) : Outcome :=
  let s1 := record (.delay s.waitMs) s
  if rxBytes s.rxlen > 0 then .next (enter .read s1) else .next (respond .unit s1)

/-- *Read* (R163): `BusRead(ADDR, RXLEN)`. -/
def readStep (s : State) : Outcome :=
  let n := rxBytes s.rxlen
  let ans := readAnswer s
  let s1 := record (.read s.addr n (readReply n ans)) (advanceRead s)
  match ans with
  | .ok bytes => .next (enter .check (storeRx n bytes s1))
  | .err e => .next (raiseError (.bus e) s1)

/-- *Measurement check and conversion* (R165): temperature group, then humidity group, then both conversions. -/
def checkMeasure (s : State) : Outcome :=
  match firstGroup s.rxbuf with
  | none => .fault .noValueCell
  | some t =>
    if groupValid t then
      match secondGroup s.rxbuf with
      | none => .fault .noValueCell
      | some h =>
        if groupValid h then .next (respond (.meas (convT (groupWord t)) (convRH (groupWord h))) s)
        else .next (raiseError .crc s)
    else .next (raiseError .crc s)

/-- STATUS's check (R172): one group, then the flag view. -/
def checkStatus (s : State) : Outcome :=
  match firstGroup s.rxbuf with
  | none => .fault .noValueCell
  | some g =>
    if groupValid g then .next (respond (.status (decodeStatus (groupWord g))) s)
    else .next (raiseError .crc s)

/-- *Check dispatch* (R164): no event; never reached for RESET or CLEAR_STATUS. -/
def checkStep (s : State) : Outcome :=
  match s.cur.op with
  | .measure => checkMeasure s
  | .status => checkStatus s
  | .reset => .fault .checkWithoutResponse
  | .clearStatus => .fault .checkWithoutResponse

/-- *Respond* (R166): when the host takes RESULT the block returns to IDLE; until then it stays in RESPOND. -/
def respondStep (s : State) : Outcome :=
  match s.result with
  | none => .fault .respondWithoutResult
  | some r => if hostTakesNow s then .next (release r (advanceTakes s)) else .next (advanceTakes s)

end Sys2Proof.Machine
end

