-- ==== Sys2Proof/Machine/Fetch.lean ====
section
/-! DEFINITION. What IDLE does with the word the host presents (spec/44_transactions.md R160, spec/30_encoding.md R72), and
one step of the block by PHASE. -/

namespace Sys2Proof.Machine

/-- The host's presented word leaves the port. -/
def consume (s : State) : State :=
  { s with hostPort := s.hostPort.tail }

/-- IDLE: a presented word that spells an instruction is run; one that spells none is refused with a mark (R72; log entry
10); with nothing presented the block stays as it is (log entry 15). R174 leaves open when the host presents a word. DESIGN
CHOICE (log entry 19): the next word of the list is at the port as soon as the one before it leaves, with no pause in IDLE
between them, and a word that waits is never withdrawn or exchanged. -/
def idleStep (s : State) : Outcome :=
  match s.hostPort with
  | [] => .next s
  | w :: _ =>
    match decode s.cfg.cmdOpcode w with
    | .ok i => exec i (consume s)
    | .error e => .next (markRefused e (consume s))

/-- One step of the block by PHASE (R160–R166). -/
def phaseStep (s : State) : Outcome :=
  match s.phase with
  | .idle => idleStep s
  | .write => writeStep s
  | .delay => delayStep s
  | .read => readStep s
  | .check => checkStep s
  | .respond => respondStep s

/-- One step: block reset where its input is asserted (R221), else the step of the phase (log entry 9). -/
def sampledStep (s : State) : Outcome :=
  if resetAsserted s then .next (blockReset (tick s)) else phaseStep (tick s)

/-- The state in which the host presents `w` to a block that can accept it at the next step: IDLE, block reset not asserted
at that step, and `w` first at the port. -/
def present (w : HostWord) (s : State) : State :=
  { s with
    phase := .idle
    resetLine := if resetAsserted s then false :: s.resetLine.tail else s.resetLine
    hostPort := w :: s.hostPort }

end Sys2Proof.Machine
end

