-- ==== Sys2Proof/Machine/Step.lean ====
section
/-! DEFINITION. The step of the machine, and the placing of an instruction where the next step takes it from: the host's
port (log entry 15). -/

namespace Sys2Proof.Machine

/-- One step of the machine. -/
def step (s : State) : Host.Outcome State Fault Refusal :=
  sampledStep s

/-- `s` with the row's word `w` of `nbits` bits presented at the host's port, for the next step to run. Bytes that are no
word of this block leave the state as it is. -/
def State.withFetchWord (s : State) (nbits w : Nat) : State :=
  match HostWord.ofBytes (tableBytes nbits w) with
  | some hw => present hw s
  | none => s

end Sys2Proof.Machine
end

