-- ==== Sys2Proof/Machine/Response.lean ====
section
/-! DEFINITION. The response in its flat form: a kind code K and a payload (spec/30_encoding.md R75). -/

namespace Sys2Proof.Machine

/-- The payload of a response (R75). -/
inductive Payload
  | none
  | meas (t : Word32) (rh : Word16)
  | flags (f : Word16)
  | detail (e : TransportError)
deriving DecidableEq, Repr

/-- A response: `K : u3` and its payload (R75). -/
structure Response where
  k : BitVec 3
  payload : Payload
deriving DecidableEq, Repr

/-- The flat form of a result (R75). -/
def responseOf (r : Result) : Response :=
  match r with
  | .ok .unit => ⟨0, .none⟩
  | .ok (.meas t rh) => ⟨1, .meas t rh⟩
  | .ok (.status f) => ⟨2, .flags f⟩
  | .err .crc => ⟨3, .none⟩
  | .err (.bus e) => ⟨4, .detail e⟩

/-- The result a flat form stands for: the payload must be that of its kind, and kinds 5 to 7 are never produced (R75). -/
def resultOf (p : Response) : Option Result :=
  match p.payload with
  | .none => if p.k = 0 then some (.ok .unit) else if p.k = 3 then some (.err .crc) else none
  | .meas t rh => if p.k = 1 then some (.ok (.meas t rh)) else none
  | .flags f => if p.k = 2 then some (.ok (.status f)) else none
  | .detail e => if p.k = 4 then some (.err (.bus e)) else none

end Sys2Proof.Machine
end

