-- ==== Sys2Proof/Machine/System.lean ====
section
/-! DEFINITION. Several blocks side by side on one bus (spec/60_exceptions.md R210, spec/20_memory.md R54): they share no
state, and the environment chooses whose step comes next. The host's interface runs one block; this file is the composition. -/

namespace Sys2Proof.Machine

/-- The first address that two blocks of the list have in common. -/
def duplicateAddr : List State → Option BusAddr
  | [] => none
  | s :: rest => if rest.any (fun t => t.addr == s.addr) then some s.addr else duplicateAddr rest

/-- Block `k` of the system takes a step; the others stay. A system with two blocks at one ADDR is refused (R210, I15), and
where there is no block `k` nothing happens. DESIGN CHOICE (log entry 20): past the ends of their scripts the blocks draw their
answers by their own ADDR and their own counts, so the draws of two blocks of a system are unrelated, since their addresses
differ, and a block's draws do not depend on how the steps of the others come in between (R54). -/
def systemStep (k : Nat) (sys : List State) : Host.Outcome (List State) Fault Refusal :=
  match duplicateAddr sys with
  | some a => .refused (.duplicateAddress a)
  | none =>
    match sys[k]? with
    | none => .next sys
    | some s =>
      match step s with
      | .next s' => .next (sys.set k s')
      | .fault f => .fault f
      | .refused r => .refused r

end Sys2Proof.Machine
end

