-- ==== Sys2Proof/Safety.lean ====
section
/-! DEFINITION. The terms claims are stated in: the block's invariant, what a trace may hold and in which order, the four
operations as the spec's straight-line pseudocode, what a later transaction may see of an earlier one, and the renaming of the
transport's error detail. -/

namespace Sys2Proof.Machine

/-! ### The invariant -/

/-- Which results an operation can return (spec/44_transactions.md R170–R173), with the ranges of R130, R131 and R141. -/
def resultAllowed (op : Op) (r : Result) : Prop :=
  match r with
  | .ok (.meas t rh) => op = .measure ∧ -4500 ≤ t.toInt ∧ t.toInt ≤ 13000 ∧ rh.toNat ≤ 10000
  | .ok (.status f) => op = .status ∧ f &&& ~~~statusKnownMask = 0
  | .ok .unit => op = .reset ∨ op = .clearStatus
  | .err .crc => op = .measure ∨ op = .status
  | .err (.bus _) => True

/-- What holds of the block between any two steps (spec/10_state.md R20, R23–R28). -/
structure BlockInv (s : State) : Prop where
  /-- ADDR is what ADDR_SEL selects (R20). -/
  addr_selected : s.addr = busAddress s.cfg.addrSel
  /-- RESULT holds a value in RESPOND and nowhere else (R28). -/
  result_in_respond : s.result.isSome = true ↔ s.phase = .respond
  /-- From acceptance on, CUR is a legal request (R24), and TXBUF, WAIT_MS and RXLEN are those of CUR (R160). -/
  loaded : s.phase ≠ .idle → s.cur.wellFormed = true ∧ s.txbuf = frameOf (s.cfg.cmdOpcode.enc (opc s.cur)) ∧
    s.waitMs = waitOf s.cur ∧ s.rxlen = lenOf s.cur.op
  /-- No byte of an earlier response is left until the read (R27, R160). -/
  rx_empty : s.phase = .write ∨ s.phase = .delay ∨ s.phase = .read → s.rxbuf = emptyRx
  /-- READ and CHECK are reached only where a response is expected (R162, R164). -/
  reads : s.phase = .read ∨ s.phase = .check → s.rxlen ≠ .zero
  /-- In CHECK the cells 0 .. RXLEN-1 hold a value (R27). -/
  rx_filled : s.phase = .check → ∀ i : Fin 6, i.val < rxBytes s.rxlen → s.rxbuf[i].isSome = true
  /-- RESULT is one that the operation can return (R170–R173). -/
  result_allowed : ∀ r, s.result = some r → resultAllowed s.cur.op r

/-- The step does not stop with a fault. -/
def runsOn (o : Outcome) : Prop :=
  ∃ t, o = .next t

/-- Block reset is asserted at no later step. -/
def calm (s : State) : Prop :=
  true ∉ s.resetLine

/-! ### The trace -/

/-- The frame is that of one of the nine commands the sequencer issues (R64, R168), for a request whose wait is `ms`. -/
def issuedFrame (cfg : Config) (f : Frame) (ms : Word32) : Prop :=
  ∃ q : Request, q.wellFormed = true ∧ f = frameOf (cfg.cmdOpcode.enc (opc q)) ∧ ms = waitOf q

/-- What one event of the block may be (R40, R41, R45, R47, R49, R64). -/
def eventOk (cfg : Config) (addr : BusAddr) (e : Event) : Prop :=
  match e with
  | .write a f _ => a = addr ∧ ∃ ms, issuedFrame cfg f ms
  | .delay ms => ms = 1 ∨ ms = 4 ∨ ms = 6 ∨ ms = 15
  | .read a n (.ok bytes) => a = addr ∧ (n = 6 ∨ n = 3) ∧ bytes.length = n
  | .read a n (.err _) => a = addr ∧ (n = 6 ∨ n = 3)

/-- What may come before an event in the trace (R43, R52, R167, R223): a delay comes right after a write that answered Ok, with
the wait of the request whose command was written; a read comes right after that write and that delay, to the same address, and
only if the request reads, as many bytes as its response has. `past` is the trace up to the event. -/
def mayFollow (cfg : Config) (past : List Event) (e : Event) : Prop :=
  match e with
  | .write _ _ _ => True
  | .delay ms => ∃ (q : Request) (a : BusAddr) (before : List Event), q.wellFormed = true ∧ ms = waitOf q ∧
      past = before ++ [.write a (frameOf (cfg.cmdOpcode.enc (opc q))) .ok]
  | .read a n _ => ∃ (q : Request) (before : List Event), q.wellFormed = true ∧ n = rxBytes (lenOf q.op) ∧ n ≠ 0 ∧
      past = before ++ [.write a (frameOf (cfg.cmdOpcode.enc (opc q))) .ok, .delay (waitOf q)]

/-- The trace of a state: every event is one the block may issue, the events are in order, and the last events are those the
transaction has issued before the phase. -/
structure TraceInv (s : State) : Prop where
  events_ok : ∀ e ∈ s.trace, eventOk s.cfg s.addr e
  in_order : ∀ past e later, s.trace = past ++ e :: later → mayFollow s.cfg past e
  delay_after_write : s.phase = .delay → ∃ before, s.trace = before ++ [.write s.addr s.txbuf .ok]
  read_after_delay : s.phase = .read → ∃ before, s.trace = before ++ [.write s.addr s.txbuf .ok, .delay s.waitMs]

/-! ### The operations as the spec writes them -/

/-- The first line of each operation's pseudocode (R170–R173): `BusWrite`, and `raise Bus(e)` if it fails. -/
def writeFirst (addr : BusAddr) (word : Word16) (w : WriteAnswer) (rest : List Event × Result) : List Event × Result :=
  match w with
  | .ok => (.write addr (frameOf word) .ok :: rest.1, rest.2)
  | .err e => ([.write addr (frameOf word) (.err e)], .err (.bus e))

/-- `Delay(ms)`, `BusRead(addr, n)`, `raise Bus(e)` if it fails, else what is made of the bytes (R170, R172). -/
def delayThenRead (addr : BusAddr) (ms : Word32) (n : Nat) (r : ReadAnswer) (use : Vector Byte 6 → Result) :
    List Event × Result :=
  match r with
  | .ok b => ([.delay ms, .read addr n (.ok (b.toList.take n))], use b)
  | .err e => ([.delay ms, .read addr n (.err e)], .err (.bus e))

/-- The result of MEASURE from its six bytes (R170). -/
def measureResult (b : Vector Byte 6) : Result :=
  if crc8 b[0] b[1] = b[2] ∧ crc8 b[3] b[4] = b[5] then .ok (.meas (convT (b[0] ++ b[1])) (convRH (b[3] ++ b[4])))
  else .err .crc

/-- The result of STATUS from its three bytes (R172). -/
def statusResult (b : Vector Byte 6) : Result :=
  if crc8 b[0] b[1] = b[2] then .ok (.status (decodeStatus (b[0] ++ b[1]))) else .err .crc

/-- The whole of an operation as one blocking call: its events and its result, for the transport's answers `w` and `r`
(R170–R173). -/
def blockingCall (cfg : Config) (addr : BusAddr) (q : Request) (w : WriteAnswer) (r : ReadAnswer) : List Event × Result :=
  match q.op with
  | .measure =>
    writeFirst addr (cfg.cmdOpcode.enc (.singleShot q.cs q.rep)) w
      (delayThenRead addr (BitVec.ofNat 32 (max 1 (repWaitMs q.rep))) 6 r measureResult)
  | .reset => writeFirst addr (cfg.cmdOpcode.enc .softReset) w ([.delay 1], .ok .unit)
  | .status => writeFirst addr (cfg.cmdOpcode.enc .readStatus) w (delayThenRead addr 1 3 r statusResult)
  | .clearStatus => writeFirst addr (cfg.cmdOpcode.enc .clearStatus) w ([.delay 1], .ok .unit)

/-! ### What a later transaction may see of an earlier one -/

/-- What the block's future can depend on (R21): between transactions the transaction registers are blanked, and from
acceptance until RESULT is offered they count; the run's records never count. -/
def futureView (s : State) : State :=
  let bare : State := { s with trace := [], refusals := [], taken := [] }
  let blank : State :=
    { bare with cur := ⟨.measure, .disabled, .high⟩, txbuf := ⟨0, 0⟩, waitMs := 0, rxlen := .zero, rxbuf := emptyRx }
  match s.phase with
  | .idle => { blank with result := none }
  | .respond => blank
  | .write | .delay | .read | .check => bare

/-! ### The transport's error detail, renamed -/

/-- A write answer with its error detail renamed by `f`. -/
def renameWrite (f : TransportError → TransportError) (a : WriteAnswer) : WriteAnswer :=
  match a with
  | .ok => .ok
  | .err e => .err (f e)

/-- A read answer with its error detail renamed by `f`. -/
def renameRead (f : TransportError → TransportError) (a : ReadAnswer) : ReadAnswer :=
  match a with
  | .ok b => .ok b
  | .err e => .err (f e)

/-- A result with its error detail renamed by `f`. -/
def renameResult (f : TransportError → TransportError) (r : Result) : Result :=
  match r with
  | .err (.bus e) => .err (.bus (f e))
  | .err .crc => .err .crc
  | .ok v => .ok v

/-- An event with its error detail renamed by `f`. -/
def renameEvent (f : TransportError → TransportError) (e : Event) : Event :=
  match e with
  | .write a b ans => .write a b (renameWrite f ans)
  | .delay ms => .delay ms
  | .read a n (.ok b) => .read a n (.ok b)
  | .read a n (.err e) => .read a n (.err (f e))

/-- A state with every error detail in it renamed by `f`. -/
def renameState (f : TransportError → TransportError) (s : State) : State :=
  { s with
    result := s.result.map (renameResult f)
    trace := s.trace.map (renameEvent f)
    taken := s.taken.map (renameResult f)
    writeAnswers := s.writeAnswers.map (renameWrite f)
    readAnswers := s.readAnswers.map (renameRead f) }

/-- An outcome with the state in it renamed by `f`. -/
def renameOutcome (f : TransportError → TransportError) (o : Outcome) : Outcome :=
  match o with
  | .next s => .next (renameState f s)
  | .fault r => .fault r
  | .refused r => .refused r

end Sys2Proof.Machine
end

