-- ==== Sys2Proof/Certificates/Slice0/Obligations.lean ====
section
/-! DEFINITION. The statements for the provers, from the numbered rules of spec/. -/

open Sys2Proof Sys2Proof.Machine

/-! ### Encoding and decoding -/

/-- Words written out from spec/30_encoding.md R63, R70 and R71, one or more of every family, decode to the instruction they
stand for, and words that spell nothing decode to nothing. The 16-bit words other than 0x2C06 are the default table's (log
entry 2). -/
def Obligations.KnownWordsDecode : Prop :=
  decodeTableWord 16 0x2C06 = some .cmdSsStretchHigh ∧ decodeTableWord 16 0x240B = some .cmdSsNostretchMedium ∧
  decodeTableWord 16 0x202F = some .cmdPeriodic0p5Low ∧ decodeTableWord 16 0x2737 = some .cmdPeriodic10High ∧
  decodeTableWord 16 0xE000 = some .cmdFetchData ∧ decodeTableWord 16 0x2B32 = some .cmdArt ∧
  decodeTableWord 16 0x3093 = some .cmdBreak ∧ decodeTableWord 16 0x30A2 = some .cmdSoftReset ∧
  decodeTableWord 16 0x306D = some .cmdHeaterEnable ∧ decodeTableWord 16 0xF32D = some .cmdReadStatus ∧
  decodeTableWord 16 0x062C = none ∧ decodeTableWord 16 0x0000 = none ∧
  decodeTableWord 8 0x0C = some (.measure .enabled .medium) ∧ decodeTableWord 8 0x10 = some (.measure .disabled .low) ∧
  decodeTableWord 8 0x01 = some .reset ∧ decodeTableWord 8 0x02 = some .status ∧
  decodeTableWord 8 0x03 = some .clearStatus ∧ decodeTableWord 8 0x18 = none ∧ decodeTableWord 8 0xFF = none

/-- R71: the nine legal request words and what they decode to; every other word is refused, and there are 247 of them. -/
def Obligations.RequestWordsDecodeAsListed : Prop :=
  decodeReq 0x00 = .ok ⟨.measure, .disabled, .high⟩ ∧ decodeReq 0x04 = .ok ⟨.measure, .enabled, .high⟩ ∧
  decodeReq 0x08 = .ok ⟨.measure, .disabled, .medium⟩ ∧ decodeReq 0x0C = .ok ⟨.measure, .enabled, .medium⟩ ∧
  decodeReq 0x10 = .ok ⟨.measure, .disabled, .low⟩ ∧ decodeReq 0x14 = .ok ⟨.measure, .enabled, .low⟩ ∧
  decodeReq 0x01 = .ok ⟨.reset, .disabled, .high⟩ ∧ decodeReq 0x02 = .ok ⟨.status, .disabled, .high⟩ ∧
  decodeReq 0x03 = .ok ⟨.clearStatus, .disabled, .high⟩ ∧
  (∀ w : Byte, w ∉ ([0x00, 0x04, 0x08, 0x0C, 0x10, 0x14, 0x01, 0x02, 0x03] : List Byte) → (decodeReq w).toOption = none) ∧
  ((List.range 256).filter fun n => (decodeReq (BitVec.ofNat 8 n)).toOption.isNone).length = 247

/-- DECODE AND ENCODE AGREE: under every table that R80 lets a claim assume, the decoder reads every instruction back from its
word, with its operands (every instruction is well formed, by its type). -/
def Obligations.DecodeReadsEncodedInstruction : Prop :=
  ∀ t : OpcodeTable, t.legal = true → ∀ i : Instr,
    decode t (encode t i) = .ok i ∧ decodeBytes t (encode t i).bytes = some i

/-- A word that decodes to an instruction is that instruction's word: no two words spell one instruction. -/
def Obligations.DecodedWordIsTheEncoding : Prop :=
  ∀ (t : OpcodeTable) (w : HostWord) (i : Instr), decode t w = .ok i → encode t i = w

/-- R62, R110: ENC is injective for every table a model may use; the default table is one, with 29 pairwise distinct words. -/
def Obligations.EncoderIsInjective : Prop :=
  (∀ t : OpcodeTable, t.legal = true → ∀ c c' : Command, t.enc c = t.enc c' → c = c') ∧
  OpcodeTable.sht3x.legal = true ∧ OpcodeTable.sht3x.words.length = 29 ∧ OpcodeTable.sht3x.words.Nodup

/-- R41: a command frame is the opcode big-endian: byte 0 is the high byte, byte 1 the low byte, and no third byte. -/
def Obligations.CommandFrameIsBigEndian : Prop :=
  ∀ w : Word16, (frameOf w).b0.toNat = w.toNat / 256 ∧ (frameOf w).b1.toNat = w.toNat % 256 ∧
    (HostWord.command w).bytes = [(frameOf w).b0, (frameOf w).b1]

/-- R74: the request syntax of every request, and reading it back. -/
def Obligations.RequestTextReadsBack : Prop :=
  (∀ q ∈ Request.all, requestOfText (requestText q) = some q) ∧
  requestText ⟨.measure, .enabled, .high⟩ = "MEASURE stretch, high" ∧
  requestText ⟨.measure, .disabled, .medium⟩ = "MEASURE nostretch, medium" ∧
  requestText ⟨.measure, .disabled, .low⟩ = "MEASURE nostretch, low" ∧
  requestText ⟨.reset, .disabled, .high⟩ = "RESET" ∧ requestText ⟨.status, .disabled, .high⟩ = "STATUS" ∧
  requestText ⟨.clearStatus, .disabled, .high⟩ = "CLEAR_STATUS"

/-- R75: the kind code and the payload of every result; the result is recovered from them, and no result has kind 5 to 7. -/
def Obligations.ResponseKindsAreDistinct : Prop :=
  responseOf (.ok .unit) = ⟨0, .none⟩ ∧
  (∀ t rh, responseOf (.ok (.meas t rh)) = ⟨1, .meas t rh⟩) ∧
  (∀ f, responseOf (.ok (.status f)) = ⟨2, .flags f⟩) ∧
  responseOf (.err .crc) = ⟨3, .none⟩ ∧
  (∀ e, responseOf (.err (.bus e)) = ⟨4, .detail e⟩) ∧
  (∀ r, resultOf (responseOf r) = some r ∧ (responseOf r).k.toNat < 5) ∧
  (∀ p r, resultOf p = some r → responseOf r = p)

/-! ### CRC-8 -/

/-- R120: each round on the accumulator's value, and the check bytes the spec lists. -/
def Obligations.CrcRoundsAndVectors : Prop :=
  (∀ c : Byte, (crcRound c).toNat = if 128 ≤ c.toNat then (2 * c.toNat % 256) ^^^ 0x31 else 2 * c.toNat) ∧
  (∀ c : Byte, crcRounds 8 c =
    crcRound (crcRound (crcRound (crcRound (crcRound (crcRound (crcRound (crcRound c)))))))) ∧
  (∀ d0 d1 : Byte, crc8 d0 d1 = crcRounds 8 (crcRounds 8 (0xFF ^^^ d0) ^^^ d1)) ∧
  crc8 0xBE 0xEF = 0x92 ∧ crc8 0x00 0x00 = 0x81 ∧ crc8 0xFF 0xFF = 0xAC ∧ crc8 0x62 0x31 = 0xF9 ∧ crc8 0x6F 0xAC = 0xCC ∧
  crc8 0x80 0x01 = 0x93 ∧ crc8 0x00 0x01 = 0xB0 ∧ crc8 0x01 0x00 = 0x75 ∧ crc8 0x53 0xEC = 0xF7

/-- CRC8 is affine: the check byte of the XOR of two payloads is the XOR of their check bytes and that of the zero payload. -/
def Obligations.CrcIsAffine : Prop :=
  ∀ a0 a1 b0 b1 : Byte, crc8 (a0 ^^^ b0) (a1 ^^^ b1) = crc8 a0 a1 ^^^ crc8 b0 b1 ^^^ crc8 0 0

/-- R124: in a valid group, flipping any single data bit or any single bit of the check byte makes the group invalid; some
changes of more bits are not detected. -/
def Obligations.SingleBitCorruptionIsDetected : Prop :=
  (∀ g : Group, groupValid g = true → ∀ i : Fin 8,
    groupValid { g with d0 := g.d0 ^^^ (1 <<< i.val) } = false ∧
    groupValid { g with d1 := g.d1 ^^^ (1 <<< i.val) } = false ∧
    groupValid { g with crc := g.crc ^^^ (1 <<< i.val) } = false) ∧
  (groupValid ⟨0x62, 0x31, 0xF9⟩ = true ∧ groupValid ⟨0x63, 0x00, 0xF9⟩ = true)

/-- Every change of one, two or three of a group's sixteen data bits is detected (95 V3.3: no undetected pattern has fewer
than four bits set). The bits of `e` are the changed ones. -/
def Obligations.UpToThreeBitErrorsAreDetected : Prop :=
  ∀ (g : Group) (i j k : Fin 16), groupValid g = true → ∀ e : Word16, e = (1 <<< i.val) ||| (1 <<< j.val) ||| (1 <<< k.val) →
    groupValid { g with d0 := g.d0 ^^^ hiByte e, d1 := g.d1 ^^^ loByte e } = false

/-! ### Conversion -/

/-- R130: CONV_T exactly, for every raw word, within [−4500, 13000], and the corner cases. -/
def Obligations.TemperatureIsExact : Prop :=
  (∀ raw : Word16, (convT raw).toInt = -4500 + ((17500 * raw.toNat / 65535 : Nat) : Int) ∧
    -4500 ≤ (convT raw).toInt ∧ (convT raw).toInt ≤ 13000) ∧
  (convT 0x0001).toInt = -4500 ∧ (convT 0x0003).toInt = -4500 ∧ (convT 0x0004).toInt = -4499 ∧
  (convT 0x41D3).toInt = -1 ∧ (convT 0x41D4).toInt = 0 ∧ (convT 0x8000).toInt = 4250 ∧ (convT 0xFFFE).toInt = 12999 ∧
  (convT 0xFFFF).toInt = 13000 ∧ (convT 0x6231).toInt = 2212

/-- R131: CONV_RH exactly, for every raw word (the product does not wrap), within [0, 10000], and the corner cases. -/
def Obligations.HumidityIsExact : Prop :=
  (∀ raw : Word16, (convRH raw).toNat = 10000 * raw.toNat / 65535 ∧ (convRH raw).toNat ≤ 10000) ∧
  (convRH 0x0006).toNat = 0 ∧ (convRH 0x0007).toNat = 1 ∧ (convRH 0x8000).toNat = 5000 ∧ (convRH 0xFFFE).toNat = 9999 ∧
  (convRH 0xFFFF).toNat = 10000 ∧ (convRH 0x6FAC).toNat = 4362

/-- R133: both conversions are monotonically non-decreasing in the raw word. -/
def Obligations.ConversionsAreMonotone : Prop :=
  ∀ a b : Word16, a.toNat ≤ b.toNat → (convT a).toInt ≤ (convT b).toInt ∧ (convRH a).toNat ≤ (convRH b).toNat

/-! ### Status flags -/

/-- R141: the flag view keeps each of the seven known bits as it was read and has every other bit 0. -/
def Obligations.StatusViewKeepsKnownBits : Prop :=
  (∀ (raw : Word16) (i : Nat), (decodeStatus raw).getLsbD i =
    (raw.getLsbD i && decide (i = 15 ∨ i = 13 ∨ i = 11 ∨ i = 10 ∨ i = 4 ∨ i = 1 ∨ i = 0))) ∧
  decodeStatus 0xFFFF = 0xAC13 ∧ decodeStatus 0x53EC = 0 ∧ decodeStatus 0 = 0 ∧ decodeStatus 0x8001 = 0x8001

/-- R142–R148: each accessor is its own bit of the flags; of a raw word it is the bit of that word; a word with one known bit
set makes exactly one accessor true. -/
def Obligations.FlagAccessorsReadTheirBits : Prop :=
  (∀ f : Word16, alertPending f = f.getLsbD 15 ∧ heaterOn f = f.getLsbD 13 ∧ rhTrackingAlert f = f.getLsbD 11 ∧
    tTrackingAlert f = f.getLsbD 10 ∧ systemResetDetected f = f.getLsbD 4 ∧ lastCommandStatus f = f.getLsbD 1 ∧
    writeChecksumStatus f = f.getLsbD 0) ∧
  (∀ raw : Word16, alertPending (decodeStatus raw) = raw.getLsbD 15 ∧ heaterOn (decodeStatus raw) = raw.getLsbD 13 ∧
    rhTrackingAlert (decodeStatus raw) = raw.getLsbD 11 ∧ tTrackingAlert (decodeStatus raw) = raw.getLsbD 10 ∧
    systemResetDetected (decodeStatus raw) = raw.getLsbD 4 ∧ lastCommandStatus (decodeStatus raw) = raw.getLsbD 1 ∧
    writeChecksumStatus (decodeStatus raw) = raw.getLsbD 0) ∧
  (∀ p ∈ ([(0x8000, 0), (0x2000, 1), (0x0800, 2), (0x0400, 3), (0x0010, 4), (0x0002, 5), (0x0001, 6)] : List (Word16 × Nat)),
    decodeStatus p.1 = p.1 ∧
    [alertPending p.1, heaterOn p.1, rhTrackingAlert p.1, tTrackingAlert p.1, systemResetDetected p.1, lastCommandStatus p.1,
      writeChecksumStatus p.1] = (List.range 7).map (fun k => decide (k = p.2)))

/-! ### The command words -/

/-- R80: under every table, the meaning of a command's row writes the frame of its word into TXBUF and nothing else, in every
state; and the sequencer issues only nine of the 29 commands. -/
def Obligations.CommandRowsOnlyWriteTheFrame : Prop :=
  (∀ (c : Command) (s : State), exec (Instr.ofCommand c) s = .next { s with txbuf := frameOf (s.cfg.cmdOpcode.enc c) }) ∧
  (∀ q : Request, opc q ∈ ([.singleShot .enabled .high, .singleShot .enabled .medium, .singleShot .enabled .low,
    .singleShot .disabled .high, .singleShot .disabled .medium, .singleShot .disabled .low, .softReset, .readStatus,
    .clearStatus] : List Command))

/-- R81–R86 with the default table (log entry 2): each single-shot row writes its word's frame and nothing else, and in IDLE
the MEASURE of the same operands, once accepted, waits as R167 says (the same in both stretch modes) and puts that frame into
the trace. -/
def Obligations.SingleShotCommandsEncode : Prop :=
  ∀ s : State, s.cfg.cmdOpcode = OpcodeTable.sht3x →
    ∀ p ∈ ([(.cmdSsStretchHigh, .enabled, .high, 0x2C, 0x06, 15), (.cmdSsStretchMedium, .enabled, .medium, 0x2C, 0x0D, 6),
        (.cmdSsStretchLow, .enabled, .low, 0x2C, 0x10, 4), (.cmdSsNostretchHigh, .disabled, .high, 0x24, 0x00, 15),
        (.cmdSsNostretchMedium, .disabled, .medium, 0x24, 0x0B, 6), (.cmdSsNostretchLow, .disabled, .low, 0x24, 0x16, 4)] :
        List (Instr × ClockStretch × Repeatability × Byte × Byte × Word32)),
      exec p.1 s = .next { s with txbuf := ⟨p.2.2.2.1, p.2.2.2.2.1⟩ } ∧
      (s.phase = .idle → ∃ t u, exec (.measure p.2.1 p.2.2.1) s = .next t ∧ t.waitMs = p.2.2.2.2.2 ∧
        writeStep t = .next u ∧
        u.trace = s.trace ++ [.write s.addr ⟨p.2.2.2.1, p.2.2.2.2.1⟩ (writeAnswer s)])

/-- R87–R95 with the default table (log entry 2): the rows of the rates P0_5, P1 and P2 write their word's frame and nothing
else, and no request sends them or their frame. -/
def Obligations.SlowPeriodicCommandsEncode : Prop :=
  ∀ s : State, s.cfg.cmdOpcode = OpcodeTable.sht3x →
    ∀ p ∈ ([(.cmdPeriodic0p5High, .periodic .p0_5 .high, 0x20, 0x32), (.cmdPeriodic0p5Medium, .periodic .p0_5 .medium, 0x20, 0x24),
        (.cmdPeriodic0p5Low, .periodic .p0_5 .low, 0x20, 0x2F), (.cmdPeriodic1High, .periodic .p1 .high, 0x21, 0x30),
        (.cmdPeriodic1Medium, .periodic .p1 .medium, 0x21, 0x26), (.cmdPeriodic1Low, .periodic .p1 .low, 0x21, 0x2D),
        (.cmdPeriodic2High, .periodic .p2 .high, 0x22, 0x36), (.cmdPeriodic2Medium, .periodic .p2 .medium, 0x22, 0x20),
        (.cmdPeriodic2Low, .periodic .p2 .low, 0x22, 0x2B)] : List (Instr × Command × Byte × Byte)),
      exec p.1 s = .next { s with txbuf := ⟨p.2.2.1, p.2.2.2⟩ } ∧
      s.cfg.cmdOpcode.enc p.2.1 = p.2.2.1 ++ p.2.2.2 ∧
      ∀ q : Request, opc q ≠ p.2.1 ∧ frameOf (s.cfg.cmdOpcode.enc (opc q)) ≠ ⟨p.2.2.1, p.2.2.2⟩

/-- R96–R101 with the default table (log entry 2): the rows of the rates P4 and P10, likewise. -/
def Obligations.FastPeriodicCommandsEncode : Prop :=
  ∀ s : State, s.cfg.cmdOpcode = OpcodeTable.sht3x →
    ∀ p ∈ ([(.cmdPeriodic4High, .periodic .p4 .high, 0x23, 0x34), (.cmdPeriodic4Medium, .periodic .p4 .medium, 0x23, 0x22),
        (.cmdPeriodic4Low, .periodic .p4 .low, 0x23, 0x29), (.cmdPeriodic10High, .periodic .p10 .high, 0x27, 0x37),
        (.cmdPeriodic10Medium, .periodic .p10 .medium, 0x27, 0x21), (.cmdPeriodic10Low, .periodic .p10 .low, 0x27, 0x2A)] :
        List (Instr × Command × Byte × Byte)),
      exec p.1 s = .next { s with txbuf := ⟨p.2.2.1, p.2.2.2⟩ } ∧
      s.cfg.cmdOpcode.enc p.2.1 = p.2.2.1 ++ p.2.2.2 ∧
      ∀ q : Request, opc q ≠ p.2.1 ∧ frameOf (s.cfg.cmdOpcode.enc (opc q)) ≠ ⟨p.2.2.1, p.2.2.2⟩

/-- R102, R103, R104, R106, R107 with the default table (log entry 2): fetch-data, ART, break, heater-enable and
heater-disable, likewise. -/
def Obligations.EncodeOnlyCommandsEncode : Prop :=
  ∀ s : State, s.cfg.cmdOpcode = OpcodeTable.sht3x →
    ∀ p ∈ ([(.cmdFetchData, .fetchData, 0xE0, 0x00), (.cmdArt, .artPeriodic, 0x2B, 0x32), (.cmdBreak, .breakPeriodic, 0x30, 0x93),
        (.cmdHeaterEnable, .heaterEnable, 0x30, 0x6D), (.cmdHeaterDisable, .heaterDisable, 0x30, 0x66)] :
        List (Instr × Command × Byte × Byte)),
      exec p.1 s = .next { s with txbuf := ⟨p.2.2.1, p.2.2.2⟩ } ∧
      s.cfg.cmdOpcode.enc p.2.1 = p.2.2.1 ++ p.2.2.2 ∧
      ∀ q : Request, opc q ≠ p.2.1 ∧ frameOf (s.cfg.cmdOpcode.enc (opc q)) ≠ ⟨p.2.2.1, p.2.2.2⟩

/-- R105, R108, R109 with the default table (log entry 2): soft reset, read status and clear status write their word's frame
and nothing else, and in IDLE the request that issues the command, once accepted, waits 1 ms, reads 0, 3 or 0 bytes, and puts that frame into
the trace. -/
def Obligations.IssuedCommandsEncode : Prop :=
  ∀ s : State, s.cfg.cmdOpcode = OpcodeTable.sht3x →
    ∀ p ∈ ([(.cmdSoftReset, .reset, 0x30, 0xA2, 0), (.cmdReadStatus, .status, 0xF3, 0x2D, 3),
        (.cmdClearStatus, .clearStatus, 0x30, 0x41, 0)] : List (Instr × Instr × Byte × Byte × Nat)),
      exec p.1 s = .next { s with txbuf := ⟨p.2.2.1, p.2.2.2.1⟩ } ∧
      (s.phase = .idle → ∃ t u, exec p.2.1 s = .next t ∧ t.waitMs = 1 ∧ rxBytes t.rxlen = p.2.2.2.2 ∧ writeStep t = .next u ∧
        u.trace = s.trace ++ [.write s.addr ⟨p.2.2.1, p.2.2.2.1⟩ (writeAnswer s)])

/-- THE FRAME of all 33 instructions: exec changes nothing but the transaction registers; a command row changes TXBUF alone.
ADDR, the configuration, the records of the run and the environment never change. -/
def Obligations.InstructionsChangeOnlyTheirRegisters : Prop :=
  ∀ (i : Instr) (s t : State), exec i s = .next t →
    (t.cfg = s.cfg ∧ t.addr = s.addr ∧ t.trace = s.trace ∧ t.refusals = s.refusals ∧ t.taken = s.taken ∧
      t.hostPort = s.hostPort ∧ t.hostTakes = s.hostTakes ∧ t.resetLine = s.resetLine ∧ t.writeAnswers = s.writeAnswers ∧
      t.readAnswers = s.readAnswers ∧ t.writesDrawn = s.writesDrawn ∧ t.readsDrawn = s.readsDrawn) ∧
    (∀ c, i.command? = some c → t.phase = s.phase ∧ t.cur = s.cur ∧ t.waitMs = s.waitMs ∧ t.rxlen = s.rxlen ∧
      t.rxbuf = s.rxbuf ∧ t.result = s.result)

/-! ### The host requests -/

/-- R160 at each of the four requests: in IDLE, exec of the instruction a request spells answers the accepted state, every
field of it. -/
def Obligations.RequestsAreAcceptedInIdle : Prop :=
  ∀ (q : Request) (s : State), q.wellFormed = true → s.phase = .idle →
    exec (Instr.ofRequest q) s = .next { s with
      cur := q
      txbuf := ⟨(s.cfg.cmdOpcode.enc (opc q)).extractLsb' 8 8, (s.cfg.cmdOpcode.enc (opc q)).extractLsb' 0 8⟩
      waitMs := waitOf q
      rxlen := lenOf q.op
      rxbuf := #v[none, none, none, none, none, none]
      result := none
      phase := .write }

/-- R167, R168: the wait, the response length and the command of each operation; the wait does not depend on the stretch
mode. -/
def Obligations.WaitLengthAndCommandTables : Prop :=
  (∀ cs, waitOf ⟨.measure, cs, .low⟩ = 4 ∧ waitOf ⟨.measure, cs, .medium⟩ = 6 ∧ waitOf ⟨.measure, cs, .high⟩ = 15) ∧
  (∀ cs rep, waitOf ⟨.reset, cs, rep⟩ = 1 ∧ waitOf ⟨.status, cs, rep⟩ = 1 ∧ waitOf ⟨.clearStatus, cs, rep⟩ = 1) ∧
  rxBytes (lenOf .measure) = 6 ∧ rxBytes (lenOf .reset) = 0 ∧ rxBytes (lenOf .status) = 3 ∧ rxBytes (lenOf .clearStatus) = 0 ∧
  (∀ cs rep, opc ⟨.measure, cs, rep⟩ = .singleShot cs rep ∧ opc ⟨.reset, cs, rep⟩ = .softReset ∧
    opc ⟨.status, cs, rep⟩ = .readStatus ∧ opc ⟨.clearStatus, cs, rep⟩ = .clearStatus) ∧
  OpcodeTable.sht3x.enc .softReset = 0x30A2 ∧ OpcodeTable.sht3x.enc .readStatus = 0xF32D ∧
  OpcodeTable.sht3x.enc .clearStatus = 0x3041

/-- R174: outside IDLE a request waits: no step takes a word from the host's port. That the meaning of a request changes
nothing there (no step runs it) is log entry 16, DEDUCED from R160 and R174. -/
def Obligations.RequestsWaitOutsideIdle : Prop :=
  (∀ (i : Instr) (q : Request) (s : State), i.request? = some q → s.phase ≠ .idle → exec i s = .next s) ∧
  (∀ s t : State, s.phase ≠ .idle → step s = .next t → t.hostPort = s.hostPort)

/-- A STEP RUNS THE DECODED INSTRUCTION: in IDLE with block reset not asserted, the word presented at the port leaves it, one
sample of the block-reset input is used, and exec runs the instruction the word decodes to (log entries 7, 9, 15). -/
def Obligations.StepRunsDecodedInstruction : Prop :=
  ∀ (s : State) (w : HostWord) (rest : List HostWord) (i : Instr),
    s.phase = .idle → s.resetLine.head? ≠ some true → s.hostPort = w :: rest → decode s.cfg.cmdOpcode w = .ok i →
    step s = exec i { s with hostPort := rest, resetLine := s.resetLine.tail }

/-- The state with a row's word placed at the port runs that row's instruction at the very next step (log entry 15). That a
16-bit command word at the port runs the encoder is log entry 7 (DESIGN CHOICE), and the sample of the block-reset input used
is log entry 9. -/
def Obligations.PlacedWordRunsNext : Prop :=
  ∀ (s : State) (nbits w : Nat) (i : Instr), s.cfg.cmdOpcode = OpcodeTable.sht3x → decodeTableWord nbits w = some i →
    step (s.withFetchWord nbits w) = exec i { s with phase := .idle, resetLine := s.resetLine.tail }

/-- R72: a request word that spells no request is not accepted: PHASE stays IDLE, no event, no result, a refusal mark (with
the reason's name). That the word leaves the port and the run goes on is log entry 10. -/
def Obligations.RefusedRequestLeavesAMark : Prop :=
  ∀ (s : State) (w : Byte) (rest : List HostWord) (e : DecodeError),
    s.phase = .idle → s.resetLine.head? ≠ some true → s.hostPort = .request w :: rest → decodeReq w = .error e →
    step s = .next { s with hostPort := rest, resetLine := s.resetLine.tail, refusals := s.refusals ++ [e] }

/-- A 16-bit word that is no command of the table gets no meaning (R64, I4): nothing but a refusal mark (log entry 10). -/
def Obligations.UnlistedCommandWordLeavesAMark : Prop :=
  ∀ (s : State) (w : Word16) (rest : List HostWord),
    s.phase = .idle → s.resetLine.head? ≠ some true → s.hostPort = .command w :: rest → w ∉ s.cfg.cmdOpcode.words →
    step s = .next { s with hostPort := rest, resetLine := s.resetLine.tail, refusals := s.refusals ++ [.notACommand w] }

/-- IDLE with nothing presented: the block stays as it is, one sample of the block-reset input used (log entry 15). -/
def Obligations.IdleWaitsForAWord : Prop :=
  ∀ s : State, s.phase = .idle → s.resetLine.head? ≠ some true → s.hostPort = [] →
    step s = .next { s with resetLine := s.resetLine.tail }

/-! ### The sequencer's steps -/

/-- R161: WRITE issues the frame in TXBUF to ADDR; Ok leads to DELAY, a failure to RESPOND with it. Exactly one answer to a
write is used up and none to a read (the model's choice, log entry 6), and one sample of the block-reset input (log entry 9);
the records of the run and the host's side stay. -/
def Obligations.WriteStepIssuesTheFrame : Prop :=
  ∀ s : State, s.phase = .write → s.resetLine.head? ≠ some true →
    ∃ t, step s = .next t ∧ t.trace = s.trace ++ [.write s.addr s.txbuf (writeAnswer s)] ∧
      (writeAnswer s = .ok → t.phase = .delay ∧ t.result = s.result) ∧
      (∀ e, writeAnswer s = .err e → t.phase = .respond ∧ t.result = some (.err (.bus e))) ∧
      t.cfg = s.cfg ∧ t.addr = s.addr ∧ t.cur = s.cur ∧ t.txbuf = s.txbuf ∧ t.waitMs = s.waitMs ∧ t.rxlen = s.rxlen ∧
      t.rxbuf = s.rxbuf ∧
      t.writeAnswers = s.writeAnswers.tail ∧ t.writesDrawn = s.writesDrawn + 1 ∧
      t.readAnswers = s.readAnswers ∧ t.readsDrawn = s.readsDrawn ∧
      t.refusals = s.refusals ∧ t.taken = s.taken ∧ t.hostPort = s.hostPort ∧ t.hostTakes = s.hostTakes ∧
      t.resetLine = s.resetLine.tail

/-- R162: DELAY issues Delay(WAIT_MS); with a response expected it leads to READ, otherwise to RESPOND with Ok(()). No answer
of the transport is used up (the model's choice, log entry 6), one sample of the block-reset input is (log entry 9); the records
of the run and the host's side stay. -/
def Obligations.DelayStepWaitsThenReadsOrResponds : Prop :=
  ∀ s : State, s.phase = .delay → s.resetLine.head? ≠ some true →
    ∃ t, step s = .next t ∧ t.trace = s.trace ++ [.delay s.waitMs] ∧
      (rxBytes s.rxlen > 0 → t.phase = .read ∧ t.result = s.result) ∧
      (rxBytes s.rxlen = 0 → t.phase = .respond ∧ t.result = some (.ok .unit)) ∧
      t.cfg = s.cfg ∧ t.addr = s.addr ∧ t.cur = s.cur ∧ t.txbuf = s.txbuf ∧ t.waitMs = s.waitMs ∧ t.rxlen = s.rxlen ∧
      t.rxbuf = s.rxbuf ∧
      t.writeAnswers = s.writeAnswers ∧ t.writesDrawn = s.writesDrawn ∧
      t.readAnswers = s.readAnswers ∧ t.readsDrawn = s.readsDrawn ∧
      t.refusals = s.refusals ∧ t.taken = s.taken ∧ t.hostPort = s.hostPort ∧ t.hostTakes = s.hostTakes ∧
      t.resetLine = s.resetLine.tail

/-- R163: READ issues a read of RXLEN bytes from ADDR; Ok fills the cells below RXLEN, leaves the others, and leads to CHECK;
a failure leads to RESPOND with it. Exactly one answer to a read is used up and none to a write (the model's choice, log entry
6), and one sample of the block-reset input (log entry 9); the records of the run and the host's side stay. -/
def Obligations.ReadStepFillsTheBuffer : Prop :=
  ∀ s : State, s.phase = .read → s.resetLine.head? ≠ some true →
    ∃ t, step s = .next t ∧
      (∀ b, readAnswer s = .ok b → t.phase = .check ∧ t.result = s.result ∧
        t.trace = s.trace ++ [.read s.addr (rxBytes s.rxlen) (.ok (b.toList.take (rxBytes s.rxlen)))] ∧
        ∀ i : Fin 6, t.rxbuf[i] = if i.val < rxBytes s.rxlen then some b[i] else s.rxbuf[i]) ∧
      (∀ e, readAnswer s = .err e → t.phase = .respond ∧ t.result = some (.err (.bus e)) ∧
        t.trace = s.trace ++ [.read s.addr (rxBytes s.rxlen) (.err e)] ∧ t.rxbuf = s.rxbuf) ∧
      t.cfg = s.cfg ∧ t.addr = s.addr ∧ t.cur = s.cur ∧ t.txbuf = s.txbuf ∧ t.waitMs = s.waitMs ∧ t.rxlen = s.rxlen ∧
      t.writeAnswers = s.writeAnswers ∧ t.writesDrawn = s.writesDrawn ∧
      t.readAnswers = s.readAnswers.tail ∧ t.readsDrawn = s.readsDrawn + 1 ∧
      t.refusals = s.refusals ∧ t.taken = s.taken ∧ t.hostPort = s.hostPort ∧ t.hostTakes = s.hostTakes ∧
      t.resetLine = s.resetLine.tail

/-- R165: CHECK of a MEASURE whose six cells hold bytes: both groups valid give the two conversions, otherwise Err(Crc), with
no half result; no event, and nothing else changes. -/
def Obligations.MeasureCheckConvertsBothOrNeither : Prop :=
  ∀ (s : State) (b0 b1 b2 b3 b4 b5 : Byte), s.phase = .check → s.resetLine.head? ≠ some true → s.cur.op = .measure →
    s.rxbuf = #v[some b0, some b1, some b2, some b3, some b4, some b5] →
    step s = .next { s with
      resetLine := s.resetLine.tail
      phase := .respond
      result := some (if crc8 b0 b1 = b2 ∧ crc8 b3 b4 = b5 then .ok (.meas (convT (b0 ++ b1)) (convRH (b3 ++ b4)))
        else .err .crc) }

/-- R172's check (R164): CHECK of a STATUS whose first three cells hold bytes: a valid group gives the flag view of the raw
word, whose CRC covers its reserved bits too; otherwise Err(Crc). -/
def Obligations.StatusCheckGivesTheFlagView : Prop :=
  ∀ (s : State) (b0 b1 b2 : Byte), s.phase = .check → s.resetLine.head? ≠ some true → s.cur.op = .status →
    s.rxbuf[0] = some b0 → s.rxbuf[1] = some b1 → s.rxbuf[2] = some b2 →
    step s = .next { s with
      resetLine := s.resetLine.tail
      phase := .respond
      result := some (if crc8 b0 b1 = b2 then .ok (.status ((b0 ++ b1) &&& 0xAC13)) else .err .crc) }

/-- R27, D25, I11: CHECK that reads a cell with no value faults. The first group's cells are read first; the second group's are
read by a MEASURE whose first group is valid (R165: one that is not ends the check with Err(Crc)). -/
def Obligations.CheckFaultsOnAnEmptyCell : Prop :=
  (∀ s : State, s.phase = .check → s.resetLine.head? ≠ some true → (s.cur.op = .measure ∨ s.cur.op = .status) →
    (s.rxbuf[0] = none ∨ s.rxbuf[1] = none ∨ s.rxbuf[2] = none) → step s = .fault .noValueCell) ∧
  (∀ (s : State) (b0 b1 b2 : Byte), s.phase = .check → s.resetLine.head? ≠ some true → s.cur.op = .measure →
    s.rxbuf[0] = some b0 → s.rxbuf[1] = some b1 → s.rxbuf[2] = some b2 → crc8 b0 b1 = b2 →
    (s.rxbuf[3] = none ∨ s.rxbuf[4] = none ∨ s.rxbuf[5] = none) → step s = .fault .noValueCell)

/-- R166, I13: the block stays in RESPOND, offering the same result, for as many steps as the host does not take it, and is
IDLE with the result taken and RESULT at no value at the step the host takes it. That past its script the host takes at once
is log entry 8. -/
def Obligations.ResultWaitsForTheHost : Prop :=
  ∀ (s : State) (r : Result) (n : Nat) (later : List Bool), s.phase = .respond → s.result = some r → calm s →
    s.hostTakes = List.replicate n false ++ true :: later →
    (∀ k ≤ n, ∃ t, Host.Core.run core k s = .next t ∧ t.phase = .respond ∧ t.result = some r ∧ t.taken = s.taken ∧
      t.trace = s.trace ∧ t.hostPort = s.hostPort) ∧
    ∃ t, Host.Core.run core (n + 1) s = .next t ∧ t.phase = .idle ∧ t.result = none ∧ t.taken = s.taken ++ [r] ∧
      t.trace = s.trace ∧ t.hostPort = s.hostPort

/-- R221, R220: an asserted block reset, in any phase: IDLE, RXBUF and RESULT at no value, ADDR from ADDR_SEL, no event, the
trace kept, no result offered; the host's words are kept. The unspecified registers are not mentioned. -/
def Obligations.BlockResetAbandonsTheTransaction : Prop :=
  ∀ s : State, s.resetLine.head? = some true →
    ∃ t, step s = .next t ∧ t.phase = .idle ∧ t.addr = 0x44 + s.cfg.addrSel.setWidth 7 ∧ t.result = none ∧
      (∀ i : Fin 6, t.rxbuf[i] = none) ∧ t.trace = s.trace ∧ t.taken = s.taken ∧ t.refusals = s.refusals ∧
      t.hostPort = s.hostPort ∧ t.cfg = s.cfg ∧ t.writeAnswers = s.writeAnswers ∧ t.readAnswers = s.readAnswers

/-- R30: the block after reset, for either ADDR_SEL and any opcode table: ADDR, PHASE, RXBUF and RESULT as the table gives
them; the unspecified registers are not mentioned. -/
def Obligations.ResetLeavesTheStatedValues : Prop :=
  (∀ cfg : Config, (State.construct cfg).phase = .idle ∧ (State.construct cfg).result = none ∧
    (∀ i : Fin 6, (State.construct cfg).rxbuf[i] = none) ∧
    (State.construct cfg).addr = 0x44 + cfg.addrSel.setWidth 7 ∧ (State.construct cfg).trace = []) ∧
  (∀ t, (State.construct ⟨0, t⟩).addr = 0x44 ∧ (State.construct ⟨1, t⟩).addr = 0x45)

/-! ### Whole-machine rules -/

/-- The invariants hold after reset, whatever the construction inputs. -/
def Obligations.InvariantHoldsAtReset : Prop :=
  (∀ cfg : Config, BlockInv (State.construct cfg) ∧ TraceInv (State.construct cfg)) ∧ BlockInv State.reset ∧ TraceInv State.reset

/-- EVERY STEP KEEPS the block's invariant (R20, R23–R28, R160–R166, R170–R173). -/
def Obligations.StepKeepsTheInvariant : Prop :=
  ∀ s t : State, BlockInv s → step s = .next t → BlockInv t

/-- EVERY STEP KEEPS the trace's invariant: only frames of the nine issued commands, only to ADDR, only the waits 1, 4, 6 and
15, only reads of 6 or 3 bytes, a delay only right after its command's successful write, a read only right after its command's
successful write and wait, only of a command that reads, and as many bytes as its response has (R40, R43, R47, R49, R52, R64,
R167, R223). -/
def Obligations.StepKeepsTheTraceOrder : Prop :=
  ∀ s t : State, BlockInv s → TraceInv s → step s = .next t → TraceInv t

/-- From a state that meets the invariant no step stops: no fault and no refusal (R27: "the rules never do that"; R164). -/
def Obligations.NoStepStopsUnderTheInvariant : Prop :=
  ∀ s : State, BlockInv s → runsOn (step s)

/-- R23: the only phase changes of a step without block reset, besides staying in IDLE or RESPOND; block reset leads to
IDLE. -/
def Obligations.PhaseChangesAreTheListedOnes : Prop :=
  ∀ s t : State, step s = .next t →
    (s.resetLine.head? = some true → t.phase = .idle) ∧
    (s.resetLine.head? ≠ some true → (s.phase, t.phase) ∈ ([(.idle, .write), (.write, .delay), (.write, .respond),
      (.delay, .read), (.delay, .respond), (.read, .check), (.read, .respond), (.check, .respond), (.respond, .idle),
      (.idle, .idle), (.respond, .respond)] : List (Phase × Phase)))

/-- R20: no step writes the construction inputs, and none changes ADDR once it is what ADDR_SEL selects; that is one of two
addresses. -/
def Obligations.AddressIsImmutable : Prop :=
  (∀ s t : State, step s = .next t → t.cfg = s.cfg ∧ (s.addr = busAddress s.cfg.addrSel → t.addr = s.addr)) ∧
  busAddress 0 = 0x44 ∧ busAddress 1 = 0x45 ∧ ∀ sel, busAddress sel = 0x44 ∨ busAddress sel = 0x45

/-- R50, R51: the trace only grows, by at most one event a step, at its end; IDLE, CHECK, RESPOND and block reset issue
none. -/
def Obligations.TraceOnlyGrowsAtItsEnd : Prop :=
  ∀ s t : State, step s = .next t → ∃ es, t.trace = s.trace ++ es ∧ es.length ≤ 1 ∧
    (s.phase = .idle ∨ s.phase = .check ∨ s.phase = .respond ∨ s.resetLine.head? = some true → es = [])

/-- R204: a step that raises an error writes RESULT and PHASE and no register else; a Bus error is the failure of the event
just issued, which ends the trace, with the transport's own detail (R201); a Crc error issues no event. -/
def Obligations.ErrorEntryIsPrecise : Prop :=
  ∀ (s t : State) (e : OpError), step s = .next t → s.result = none → t.result = some (.err e) →
    t.phase = .respond ∧ t.cfg = s.cfg ∧ t.addr = s.addr ∧ t.cur = s.cur ∧ t.txbuf = s.txbuf ∧ t.waitMs = s.waitMs ∧
    t.rxlen = s.rxlen ∧ t.rxbuf = s.rxbuf ∧ t.taken = s.taken ∧
    (∀ d, e = .bus d → ∃ ev, t.trace = s.trace ++ [ev] ∧
      (ev = .write s.addr s.txbuf (.err d) ∨ ev = .read s.addr (rxBytes s.rxlen) (.err d))) ∧
    (e = .crc → t.trace = s.trace ∧ s.phase = .check)

/-- THE SEQUENCER REFINES THE BLOCKING CALL (R170–R173, R52, R169, R203): from IDLE, with no block reset to come, an accepted
request reaches RESPOND within four steps; its events and its result are those of the spec's straight-line pseudocode for the
transport's answers; ADDR, the configuration and the host's side are as before. -/
def Obligations.SequencerRunsTheBlockingCall : Prop :=
  ∀ (q : Request) (s : State), q.wellFormed = true → s.phase = .idle → calm s →
    ∃ t k u, exec (Instr.ofRequest q) s = .next t ∧ k ≤ 4 ∧ Host.Core.run core k t = .next u ∧ u.phase = .respond ∧
      u.result = some (blockingCall s.cfg s.addr q (writeAnswer s) (readAnswer s)).2 ∧
      u.trace = s.trace ++ (blockingCall s.cfg s.addr q (writeAnswer s) (readAnswer s)).1 ∧
      u.cfg = s.cfg ∧ u.addr = s.addr ∧ u.hostPort = s.hostPort ∧ u.hostTakes = s.hostTakes ∧ u.taken = s.taken ∧
      u.refusals = s.refusals

/-- R170: MEASURE, all four outcomes, with its request word. `w` is the wait, 15, 6 or 4; the frame is the single-shot word's. -/
def Obligations.MeasureTransactionOutcomes : Prop :=
  ∀ (cs : ClockStretch) (rep : Repeatability) (s : State), s.phase = .idle → calm s →
    ∀ (f : Frame) (w : Word32), f = frameOf (s.cfg.cmdOpcode.enc (.singleShot cs rep)) →
      w = (match rep with | .high => 15 | .medium => 6 | .low => 4) →
    decode s.cfg.cmdOpcode (.request ((0b000 : BitVec 3) ++ repField rep ++ stretchBit cs ++ (0b00 : BitVec 2))) = .ok (.measure cs rep) ∧
    ∃ t k u, exec (.measure cs rep) s = .next t ∧ Host.Core.run core k t = .next u ∧ u.phase = .respond ∧
      (∀ e, writeAnswer s = .err e → u.trace = s.trace ++ [.write s.addr f (.err e)] ∧ u.result = some (.err (.bus e))) ∧
      (∀ e, writeAnswer s = .ok → readAnswer s = .err e →
        u.trace = s.trace ++ [.write s.addr f .ok, .delay w, .read s.addr 6 (.err e)] ∧ u.result = some (.err (.bus e))) ∧
      (∀ b, writeAnswer s = .ok → readAnswer s = .ok b →
        u.trace = s.trace ++ [.write s.addr f .ok, .delay w, .read s.addr 6 (.ok b.toList)] ∧
        (crc8 b[0] b[1] ≠ b[2] ∨ crc8 b[3] b[4] ≠ b[5] → u.result = some (.err .crc)) ∧
        (crc8 b[0] b[1] = b[2] ∧ crc8 b[3] b[4] = b[5] →
          u.result = some (.ok (.meas (convT (b[0] ++ b[1])) (convRH (b[3] ++ b[4]))))))

/-- R171: RESET, both outcomes, under the default table (log entry 2), with its request word. -/
def Obligations.ResetTransactionOutcomes : Prop :=
  ∀ s : State, s.phase = .idle → calm s → s.cfg.cmdOpcode = OpcodeTable.sht3x →
    decode s.cfg.cmdOpcode (.request 0x01) = .ok .reset ∧
    ∃ t k u, exec .reset s = .next t ∧ Host.Core.run core k t = .next u ∧ u.phase = .respond ∧ u.addr = s.addr ∧
      (∀ e, writeAnswer s = .err e →
        u.trace = s.trace ++ [.write s.addr ⟨0x30, 0xA2⟩ (.err e)] ∧ u.result = some (.err (.bus e))) ∧
      (writeAnswer s = .ok → u.trace = s.trace ++ [.write s.addr ⟨0x30, 0xA2⟩ .ok, .delay 1] ∧ u.result = some (.ok .unit))

/-- R172: STATUS, all four outcomes, under the default table (log entry 2), with its request word. -/
def Obligations.StatusTransactionOutcomes : Prop :=
  ∀ s : State, s.phase = .idle → calm s → s.cfg.cmdOpcode = OpcodeTable.sht3x →
    decode s.cfg.cmdOpcode (.request 0x02) = .ok .status ∧
    ∃ t k u, exec .status s = .next t ∧ Host.Core.run core k t = .next u ∧ u.phase = .respond ∧
      (∀ e, writeAnswer s = .err e →
        u.trace = s.trace ++ [.write s.addr ⟨0xF3, 0x2D⟩ (.err e)] ∧ u.result = some (.err (.bus e))) ∧
      (∀ e, writeAnswer s = .ok → readAnswer s = .err e →
        u.trace = s.trace ++ [.write s.addr ⟨0xF3, 0x2D⟩ .ok, .delay 1, .read s.addr 3 (.err e)] ∧
        u.result = some (.err (.bus e))) ∧
      (∀ b, writeAnswer s = .ok → readAnswer s = .ok b →
        u.trace = s.trace ++ [.write s.addr ⟨0xF3, 0x2D⟩ .ok, .delay 1, .read s.addr 3 (.ok [b[0], b[1], b[2]])] ∧
        (crc8 b[0] b[1] ≠ b[2] → u.result = some (.err .crc)) ∧
        (crc8 b[0] b[1] = b[2] → ∃ f, u.result = some (.ok (.status f)) ∧ f = (b[0] ++ b[1]) &&& 0xAC13 ∧
          f &&& ~~~0xAC13 = 0))

/-- R173: CLEAR_STATUS, both outcomes, under the default table (log entry 2), with its request word. -/
def Obligations.ClearStatusTransactionOutcomes : Prop :=
  ∀ s : State, s.phase = .idle → calm s → s.cfg.cmdOpcode = OpcodeTable.sht3x →
    decode s.cfg.cmdOpcode (.request 0x03) = .ok .clearStatus ∧
    ∃ t k u, exec .clearStatus s = .next t ∧ Host.Core.run core k t = .next u ∧ u.phase = .respond ∧
      (∀ e, writeAnswer s = .err e →
        u.trace = s.trace ++ [.write s.addr ⟨0x30, 0x41⟩ (.err e)] ∧ u.result = some (.err (.bus e))) ∧
      (writeAnswer s = .ok → u.trace = s.trace ++ [.write s.addr ⟨0x30, 0x41⟩ .ok, .delay 1] ∧ u.result = some (.ok .unit))

/-- R169: a transaction runs to its end: from any phase, with no block reset to come, the block offers a result within four
steps, with at most three more events. -/
def Obligations.TransactionsRunToTheirEnd : Prop :=
  ∀ s : State, BlockInv s → calm s → s.phase ≠ .idle →
    ∃ k t es, k ≤ 4 ∧ Host.Core.run core k s = .next t ∧ t.phase = .respond ∧ t.result.isSome = true ∧
      t.trace = s.trace ++ es ∧ es.length ≤ 3 ∧ t.taken = s.taken

/-- R21, R122, D27: NO VALUE OF ONE TRANSACTION REACHES A LATER ONE. Two states that agree on what the block's future may
depend on (between transactions, neither the transaction registers nor the run's records) take the same step: both stop for
the same reason, or both go on, agree again, and have issued the same events, taken the same results and left the same marks.
That the two draw the same answers past their scripts' ends is the model's choice (log entry 20, DESIGN CHOICE): the free
answers depend on ADDR and the counts, on which the two agree. -/
def Obligations.FutureIgnoresEarlierTransactions : Prop :=
  ∀ s t : State, futureView s = futureView t →
    (∃ s' t' es rs ms, step s = .next s' ∧ step t = .next t' ∧ futureView s' = futureView t' ∧
      s'.trace = s.trace ++ es ∧ t'.trace = t.trace ++ es ∧ s'.taken = s.taken ++ rs ∧ t'.taken = t.taken ++ rs ∧
      s'.refusals = s.refusals ++ ms ∧ t'.refusals = t.refusals ++ ms) ∨
    (∃ f, step s = .fault f ∧ step t = .fault f)

/-- R201, D26: THE BLOCK DOES NOT READ THE ERROR DETAIL: renaming every error detail, by any function, commutes with the step.
Only a step that draws an answer needs that answer in the script (a write's in WRITE, a read's in READ), since the free answers
(log entry 6) are not renamed. -/
def Obligations.ErrorDetailIsNeverRead : Prop :=
  ∀ (f : TransportError → TransportError) (s : State),
    (s.resetLine.head? ≠ some true → s.phase = .write → s.writeAnswers ≠ []) →
    (s.resetLine.head? ≠ some true → s.phase = .read → s.readAnswers ≠ []) →
    step (renameState f s) = renameOutcome f (step s)

/-- R44–R46: the draws admit everything: whatever a READ of this state is to be answered, bytes or a failure, some state that
differs in the transport's script alone takes that step; and likewise for a WRITE. -/
def Obligations.EveryTransportAnswerIsAdmitted : Prop :=
  (∀ (s : State) (a : ReadAnswer), s.phase = .read → s.resetLine.head? ≠ some true →
    ∃ t, step { s with readAnswers := a :: s.readAnswers } = .next t ∧
      t.trace = s.trace ++ [.read s.addr (rxBytes s.rxlen) (readReply (rxBytes s.rxlen) a)]) ∧
  (∀ (s : State) (a : WriteAnswer), s.phase = .write → s.resetLine.head? ≠ some true →
    ∃ t, step { s with writeAnswers := a :: s.writeAnswers } = .next t ∧
      t.trace = s.trace ++ [.write s.addr s.txbuf a])

/-- R210, R54, D15: blocks side by side share no state: a step of block k is that block's own step and leaves every other
block as it was; where all ADDRs differ, a step the block takes is one the system takes; a system with two blocks at one ADDR
gets no meaning. -/
def Obligations.BlocksShareNoState : Prop :=
  (∀ (k : Nat) (sys sys' : List State), systemStep k sys = .next sys' →
    sys'.length = sys.length ∧ (∀ j, j ≠ k → sys'[j]? = sys[j]?) ∧
    (∀ s, sys[k]? = some s → ∃ s', step s = .next s' ∧ sys'[k]? = some s')) ∧
  (∀ (k : Nat) (sys : List State) (s s' : State), (sys.map State.addr).Nodup → sys[k]? = some s → step s = .next s' →
    systemStep k sys = .next (sys.set k s')) ∧
  (∀ (k i j : Nat) (sys : List State) (s t : State), i < j → sys[i]? = some s → sys[j]? = some t → s.addr = t.addr →
    ∃ a, systemStep k sys = .refused (.duplicateAddress a))
end

