-- ==== Sys2Proof/Laws/Decode.lean ====
section
/-! SUPPORT. Small facts about the encoder and the decoders. -/

namespace Sys2Proof

/-- Every command is in the list of commands. -/
theorem Command.mem_all (c : Command) : c ∈ Command.all := by
  cases c with
  | singleShot cs rep => cases cs <;> cases rep <;> decide
  | periodic rate rep => cases rate <;> cases rep <;> decide
  | _ => decide

/-- The words of a table are ENC of the commands, in order. -/
theorem OpcodeTable.words_eq_map (t : OpcodeTable) : t.words = Command.all.map t.enc := rfl

/-- The row of a command stands for that command. -/
theorem Instr.command?_ofCommand (c : Command) : (Instr.ofCommand c).command? = some c := by
  cases c with
  | singleShot cs rep => cases cs <;> cases rep <;> rfl
  | periodic rate rep => cases rate <;> cases rep <;> rfl
  | _ => rfl

/-- A row that stands for a command is the row of that command. -/
theorem Instr.ofCommand_of_command? {i : Instr} {c : Command} (h : i.command? = some c) : Instr.ofCommand c = i := by
  cases i <;> simp only [Instr.command?, reduceCtorEq, Option.some.injEq] at h <;> subst h <;> rfl

/-- The word of a command's row is ENC of the command. -/
theorem encode_ofCommand (t : OpcodeTable) (c : Command) : encode t (Instr.ofCommand c) = .command (t.enc c) := by
  cases c with
  | singleShot cs rep => cases cs <;> cases rep <;> rfl
  | periodic rate rep => cases rate <;> cases rep <;> rfl
  | _ => rfl

/-- A decoded command has the word it was decoded from. -/
theorem enc_of_decodeCommand {t : OpcodeTable} {w : Word16} {c : Command} (h : decodeCommand t w = .ok c) : t.enc c = w := by
  unfold decodeCommand at h
  split at h
  · next c' hf =>
    cases h
    simpa using List.find?_some hf
  · cases h

/-- The two bytes of a word, joined, are the word. -/
@[simp] theorem joinBytes_hi_lo (w : Word16) : joinBytes (hiByte w) (loByte w) = w := by
  apply BitVec.eq_of_getLsbD_eq
  intro i hi
  show BitVec.getLsbD (w := 8 + 8) (BitVec.append (hiByte w) (loByte w)) i = w.getLsbD i
  rw [BitVec.append_eq, BitVec.getLsbD_append]
  by_cases h : i < 8
  · simp [loByte, h]
  · simp only [hiByte, h, BitVec.getLsbD_extractLsb', show i - 8 < 8 by omega, decide_true,
      Bool.true_and, show 8 + (i - 8) = i by omega]
    rfl

/-- The bytes of a presented word are read back as that word. -/
@[simp] theorem HostWord.ofBytes_bytes (w : HostWord) : HostWord.ofBytes w.bytes = some w := by
  cases w <;> simp [HostWord.bytes, HostWord.ofBytes]

/-- Every host request's record is well formed, so every instruction is. -/
theorem Instr.wellFormed_all (i : Instr) : i.wellFormed = true := by
  cases i <;> rfl

end Sys2Proof
end

