-- ==== Sys2Proof/Laws/State.lean ====
section
/-! SUPPORT. One lemma per field and per update of State: what the named operations of Machine/Ops.lean and Machine/Fetch.lean
leave in each field. -/

namespace Sys2Proof.Machine

variable (s : State)

@[simp] theorem encodeInto_cfg (c : Command) : (encodeInto c s).cfg = s.cfg := rfl
@[simp] theorem encodeInto_addr (c : Command) : (encodeInto c s).addr = s.addr := rfl
@[simp] theorem encodeInto_phase (c : Command) : (encodeInto c s).phase = s.phase := rfl
@[simp] theorem encodeInto_cur (c : Command) : (encodeInto c s).cur = s.cur := rfl
@[simp] theorem encodeInto_txbuf (c : Command) : (encodeInto c s).txbuf = frameOf (s.cfg.cmdOpcode.enc c) := rfl
@[simp] theorem encodeInto_waitMs (c : Command) : (encodeInto c s).waitMs = s.waitMs := rfl
@[simp] theorem encodeInto_rxlen (c : Command) : (encodeInto c s).rxlen = s.rxlen := rfl
@[simp] theorem encodeInto_rxbuf (c : Command) : (encodeInto c s).rxbuf = s.rxbuf := rfl
@[simp] theorem encodeInto_result (c : Command) : (encodeInto c s).result = s.result := rfl
@[simp] theorem encodeInto_trace (c : Command) : (encodeInto c s).trace = s.trace := rfl
@[simp] theorem encodeInto_refusals (c : Command) : (encodeInto c s).refusals = s.refusals := rfl
@[simp] theorem encodeInto_taken (c : Command) : (encodeInto c s).taken = s.taken := rfl
@[simp] theorem encodeInto_hostPort (c : Command) : (encodeInto c s).hostPort = s.hostPort := rfl
@[simp] theorem encodeInto_hostTakes (c : Command) : (encodeInto c s).hostTakes = s.hostTakes := rfl
@[simp] theorem encodeInto_resetLine (c : Command) : (encodeInto c s).resetLine = s.resetLine := rfl
@[simp] theorem encodeInto_writeAnswers (c : Command) : (encodeInto c s).writeAnswers = s.writeAnswers := rfl
@[simp] theorem encodeInto_readAnswers (c : Command) : (encodeInto c s).readAnswers = s.readAnswers := rfl
@[simp] theorem encodeInto_writesDrawn (c : Command) : (encodeInto c s).writesDrawn = s.writesDrawn := rfl
@[simp] theorem encodeInto_readsDrawn (c : Command) : (encodeInto c s).readsDrawn = s.readsDrawn := rfl

@[simp] theorem accept_cfg (q : Request) : (accept q s).cfg = s.cfg := rfl
@[simp] theorem accept_addr (q : Request) : (accept q s).addr = s.addr := rfl
@[simp] theorem accept_phase (q : Request) : (accept q s).phase = .write := rfl
@[simp] theorem accept_cur (q : Request) : (accept q s).cur = q := rfl
@[simp] theorem accept_txbuf (q : Request) : (accept q s).txbuf = frameOf (s.cfg.cmdOpcode.enc (opc q)) := rfl
@[simp] theorem accept_waitMs (q : Request) : (accept q s).waitMs = waitOf q := rfl
@[simp] theorem accept_rxlen (q : Request) : (accept q s).rxlen = lenOf q.op := rfl
@[simp] theorem accept_rxbuf (q : Request) : (accept q s).rxbuf = emptyRx := rfl
@[simp] theorem accept_result (q : Request) : (accept q s).result = none := rfl
@[simp] theorem accept_trace (q : Request) : (accept q s).trace = s.trace := rfl
@[simp] theorem accept_refusals (q : Request) : (accept q s).refusals = s.refusals := rfl
@[simp] theorem accept_taken (q : Request) : (accept q s).taken = s.taken := rfl
@[simp] theorem accept_hostPort (q : Request) : (accept q s).hostPort = s.hostPort := rfl
@[simp] theorem accept_hostTakes (q : Request) : (accept q s).hostTakes = s.hostTakes := rfl
@[simp] theorem accept_resetLine (q : Request) : (accept q s).resetLine = s.resetLine := rfl
@[simp] theorem accept_writeAnswers (q : Request) : (accept q s).writeAnswers = s.writeAnswers := rfl
@[simp] theorem accept_readAnswers (q : Request) : (accept q s).readAnswers = s.readAnswers := rfl
@[simp] theorem accept_writesDrawn (q : Request) : (accept q s).writesDrawn = s.writesDrawn := rfl
@[simp] theorem accept_readsDrawn (q : Request) : (accept q s).readsDrawn = s.readsDrawn := rfl

@[simp] theorem record_cfg (e : Event) : (record e s).cfg = s.cfg := rfl
@[simp] theorem record_addr (e : Event) : (record e s).addr = s.addr := rfl
@[simp] theorem record_phase (e : Event) : (record e s).phase = s.phase := rfl
@[simp] theorem record_cur (e : Event) : (record e s).cur = s.cur := rfl
@[simp] theorem record_txbuf (e : Event) : (record e s).txbuf = s.txbuf := rfl
@[simp] theorem record_waitMs (e : Event) : (record e s).waitMs = s.waitMs := rfl
@[simp] theorem record_rxlen (e : Event) : (record e s).rxlen = s.rxlen := rfl
@[simp] theorem record_rxbuf (e : Event) : (record e s).rxbuf = s.rxbuf := rfl
@[simp] theorem record_result (e : Event) : (record e s).result = s.result := rfl
@[simp] theorem record_trace (e : Event) : (record e s).trace = s.trace ++ [e] := rfl
@[simp] theorem record_refusals (e : Event) : (record e s).refusals = s.refusals := rfl
@[simp] theorem record_taken (e : Event) : (record e s).taken = s.taken := rfl
@[simp] theorem record_hostPort (e : Event) : (record e s).hostPort = s.hostPort := rfl
@[simp] theorem record_hostTakes (e : Event) : (record e s).hostTakes = s.hostTakes := rfl
@[simp] theorem record_resetLine (e : Event) : (record e s).resetLine = s.resetLine := rfl
@[simp] theorem record_writeAnswers (e : Event) : (record e s).writeAnswers = s.writeAnswers := rfl
@[simp] theorem record_readAnswers (e : Event) : (record e s).readAnswers = s.readAnswers := rfl
@[simp] theorem record_writesDrawn (e : Event) : (record e s).writesDrawn = s.writesDrawn := rfl
@[simp] theorem record_readsDrawn (e : Event) : (record e s).readsDrawn = s.readsDrawn := rfl

@[simp] theorem enter_cfg (p : Phase) : (enter p s).cfg = s.cfg := rfl
@[simp] theorem enter_addr (p : Phase) : (enter p s).addr = s.addr := rfl
@[simp] theorem enter_phase (p : Phase) : (enter p s).phase = p := rfl
@[simp] theorem enter_cur (p : Phase) : (enter p s).cur = s.cur := rfl
@[simp] theorem enter_txbuf (p : Phase) : (enter p s).txbuf = s.txbuf := rfl
@[simp] theorem enter_waitMs (p : Phase) : (enter p s).waitMs = s.waitMs := rfl
@[simp] theorem enter_rxlen (p : Phase) : (enter p s).rxlen = s.rxlen := rfl
@[simp] theorem enter_rxbuf (p : Phase) : (enter p s).rxbuf = s.rxbuf := rfl
@[simp] theorem enter_result (p : Phase) : (enter p s).result = s.result := rfl
@[simp] theorem enter_trace (p : Phase) : (enter p s).trace = s.trace := rfl
@[simp] theorem enter_refusals (p : Phase) : (enter p s).refusals = s.refusals := rfl
@[simp] theorem enter_taken (p : Phase) : (enter p s).taken = s.taken := rfl
@[simp] theorem enter_hostPort (p : Phase) : (enter p s).hostPort = s.hostPort := rfl
@[simp] theorem enter_hostTakes (p : Phase) : (enter p s).hostTakes = s.hostTakes := rfl
@[simp] theorem enter_resetLine (p : Phase) : (enter p s).resetLine = s.resetLine := rfl
@[simp] theorem enter_writeAnswers (p : Phase) : (enter p s).writeAnswers = s.writeAnswers := rfl
@[simp] theorem enter_readAnswers (p : Phase) : (enter p s).readAnswers = s.readAnswers := rfl
@[simp] theorem enter_writesDrawn (p : Phase) : (enter p s).writesDrawn = s.writesDrawn := rfl
@[simp] theorem enter_readsDrawn (p : Phase) : (enter p s).readsDrawn = s.readsDrawn := rfl

@[simp] theorem storeRx_cfg (n : Nat) (b : Vector Byte 6) : (storeRx n b s).cfg = s.cfg := rfl
@[simp] theorem storeRx_addr (n : Nat) (b : Vector Byte 6) : (storeRx n b s).addr = s.addr := rfl
@[simp] theorem storeRx_phase (n : Nat) (b : Vector Byte 6) : (storeRx n b s).phase = s.phase := rfl
@[simp] theorem storeRx_cur (n : Nat) (b : Vector Byte 6) : (storeRx n b s).cur = s.cur := rfl
@[simp] theorem storeRx_txbuf (n : Nat) (b : Vector Byte 6) : (storeRx n b s).txbuf = s.txbuf := rfl
@[simp] theorem storeRx_waitMs (n : Nat) (b : Vector Byte 6) : (storeRx n b s).waitMs = s.waitMs := rfl
@[simp] theorem storeRx_rxlen (n : Nat) (b : Vector Byte 6) : (storeRx n b s).rxlen = s.rxlen := rfl
@[simp] theorem storeRx_rxbuf (n : Nat) (b : Vector Byte 6) : (storeRx n b s).rxbuf = fillRx n b s.rxbuf := rfl
@[simp] theorem storeRx_result (n : Nat) (b : Vector Byte 6) : (storeRx n b s).result = s.result := rfl
@[simp] theorem storeRx_trace (n : Nat) (b : Vector Byte 6) : (storeRx n b s).trace = s.trace := rfl
@[simp] theorem storeRx_refusals (n : Nat) (b : Vector Byte 6) : (storeRx n b s).refusals = s.refusals := rfl
@[simp] theorem storeRx_taken (n : Nat) (b : Vector Byte 6) : (storeRx n b s).taken = s.taken := rfl
@[simp] theorem storeRx_hostPort (n : Nat) (b : Vector Byte 6) : (storeRx n b s).hostPort = s.hostPort := rfl
@[simp] theorem storeRx_hostTakes (n : Nat) (b : Vector Byte 6) : (storeRx n b s).hostTakes = s.hostTakes := rfl
@[simp] theorem storeRx_resetLine (n : Nat) (b : Vector Byte 6) : (storeRx n b s).resetLine = s.resetLine := rfl
@[simp] theorem storeRx_writeAnswers (n : Nat) (b : Vector Byte 6) : (storeRx n b s).writeAnswers = s.writeAnswers := rfl
@[simp] theorem storeRx_readAnswers (n : Nat) (b : Vector Byte 6) : (storeRx n b s).readAnswers = s.readAnswers := rfl
@[simp] theorem storeRx_writesDrawn (n : Nat) (b : Vector Byte 6) : (storeRx n b s).writesDrawn = s.writesDrawn := rfl
@[simp] theorem storeRx_readsDrawn (n : Nat) (b : Vector Byte 6) : (storeRx n b s).readsDrawn = s.readsDrawn := rfl

@[simp] theorem respond_cfg (v : Reply) : (respond v s).cfg = s.cfg := rfl
@[simp] theorem respond_addr (v : Reply) : (respond v s).addr = s.addr := rfl
@[simp] theorem respond_phase (v : Reply) : (respond v s).phase = .respond := rfl
@[simp] theorem respond_cur (v : Reply) : (respond v s).cur = s.cur := rfl
@[simp] theorem respond_txbuf (v : Reply) : (respond v s).txbuf = s.txbuf := rfl
@[simp] theorem respond_waitMs (v : Reply) : (respond v s).waitMs = s.waitMs := rfl
@[simp] theorem respond_rxlen (v : Reply) : (respond v s).rxlen = s.rxlen := rfl
@[simp] theorem respond_rxbuf (v : Reply) : (respond v s).rxbuf = s.rxbuf := rfl
@[simp] theorem respond_result (v : Reply) : (respond v s).result = some (.ok v) := rfl
@[simp] theorem respond_trace (v : Reply) : (respond v s).trace = s.trace := rfl
@[simp] theorem respond_refusals (v : Reply) : (respond v s).refusals = s.refusals := rfl
@[simp] theorem respond_taken (v : Reply) : (respond v s).taken = s.taken := rfl
@[simp] theorem respond_hostPort (v : Reply) : (respond v s).hostPort = s.hostPort := rfl
@[simp] theorem respond_hostTakes (v : Reply) : (respond v s).hostTakes = s.hostTakes := rfl
@[simp] theorem respond_resetLine (v : Reply) : (respond v s).resetLine = s.resetLine := rfl
@[simp] theorem respond_writeAnswers (v : Reply) : (respond v s).writeAnswers = s.writeAnswers := rfl
@[simp] theorem respond_readAnswers (v : Reply) : (respond v s).readAnswers = s.readAnswers := rfl
@[simp] theorem respond_writesDrawn (v : Reply) : (respond v s).writesDrawn = s.writesDrawn := rfl
@[simp] theorem respond_readsDrawn (v : Reply) : (respond v s).readsDrawn = s.readsDrawn := rfl

@[simp] theorem raiseError_cfg (e : OpError) : (raiseError e s).cfg = s.cfg := rfl
@[simp] theorem raiseError_addr (e : OpError) : (raiseError e s).addr = s.addr := rfl
@[simp] theorem raiseError_phase (e : OpError) : (raiseError e s).phase = .respond := rfl
@[simp] theorem raiseError_cur (e : OpError) : (raiseError e s).cur = s.cur := rfl
@[simp] theorem raiseError_txbuf (e : OpError) : (raiseError e s).txbuf = s.txbuf := rfl
@[simp] theorem raiseError_waitMs (e : OpError) : (raiseError e s).waitMs = s.waitMs := rfl
@[simp] theorem raiseError_rxlen (e : OpError) : (raiseError e s).rxlen = s.rxlen := rfl
@[simp] theorem raiseError_rxbuf (e : OpError) : (raiseError e s).rxbuf = s.rxbuf := rfl
@[simp] theorem raiseError_result (e : OpError) : (raiseError e s).result = some (.err e) := rfl
@[simp] theorem raiseError_trace (e : OpError) : (raiseError e s).trace = s.trace := rfl
@[simp] theorem raiseError_refusals (e : OpError) : (raiseError e s).refusals = s.refusals := rfl
@[simp] theorem raiseError_taken (e : OpError) : (raiseError e s).taken = s.taken := rfl
@[simp] theorem raiseError_hostPort (e : OpError) : (raiseError e s).hostPort = s.hostPort := rfl
@[simp] theorem raiseError_hostTakes (e : OpError) : (raiseError e s).hostTakes = s.hostTakes := rfl
@[simp] theorem raiseError_resetLine (e : OpError) : (raiseError e s).resetLine = s.resetLine := rfl
@[simp] theorem raiseError_writeAnswers (e : OpError) : (raiseError e s).writeAnswers = s.writeAnswers := rfl
@[simp] theorem raiseError_readAnswers (e : OpError) : (raiseError e s).readAnswers = s.readAnswers := rfl
@[simp] theorem raiseError_writesDrawn (e : OpError) : (raiseError e s).writesDrawn = s.writesDrawn := rfl
@[simp] theorem raiseError_readsDrawn (e : OpError) : (raiseError e s).readsDrawn = s.readsDrawn := rfl

@[simp] theorem release_cfg (r : Result) : (release r s).cfg = s.cfg := rfl
@[simp] theorem release_addr (r : Result) : (release r s).addr = s.addr := rfl
@[simp] theorem release_phase (r : Result) : (release r s).phase = .idle := rfl
@[simp] theorem release_cur (r : Result) : (release r s).cur = s.cur := rfl
@[simp] theorem release_txbuf (r : Result) : (release r s).txbuf = s.txbuf := rfl
@[simp] theorem release_waitMs (r : Result) : (release r s).waitMs = s.waitMs := rfl
@[simp] theorem release_rxlen (r : Result) : (release r s).rxlen = s.rxlen := rfl
@[simp] theorem release_rxbuf (r : Result) : (release r s).rxbuf = s.rxbuf := rfl
@[simp] theorem release_result (r : Result) : (release r s).result = none := rfl
@[simp] theorem release_trace (r : Result) : (release r s).trace = s.trace := rfl
@[simp] theorem release_refusals (r : Result) : (release r s).refusals = s.refusals := rfl
@[simp] theorem release_taken (r : Result) : (release r s).taken = s.taken ++ [r] := rfl
@[simp] theorem release_hostPort (r : Result) : (release r s).hostPort = s.hostPort := rfl
@[simp] theorem release_hostTakes (r : Result) : (release r s).hostTakes = s.hostTakes := rfl
@[simp] theorem release_resetLine (r : Result) : (release r s).resetLine = s.resetLine := rfl
@[simp] theorem release_writeAnswers (r : Result) : (release r s).writeAnswers = s.writeAnswers := rfl
@[simp] theorem release_readAnswers (r : Result) : (release r s).readAnswers = s.readAnswers := rfl
@[simp] theorem release_writesDrawn (r : Result) : (release r s).writesDrawn = s.writesDrawn := rfl
@[simp] theorem release_readsDrawn (r : Result) : (release r s).readsDrawn = s.readsDrawn := rfl

@[simp] theorem advanceWrite_cfg : (advanceWrite s).cfg = s.cfg := rfl
@[simp] theorem advanceWrite_addr : (advanceWrite s).addr = s.addr := rfl
@[simp] theorem advanceWrite_phase : (advanceWrite s).phase = s.phase := rfl
@[simp] theorem advanceWrite_cur : (advanceWrite s).cur = s.cur := rfl
@[simp] theorem advanceWrite_txbuf : (advanceWrite s).txbuf = s.txbuf := rfl
@[simp] theorem advanceWrite_waitMs : (advanceWrite s).waitMs = s.waitMs := rfl
@[simp] theorem advanceWrite_rxlen : (advanceWrite s).rxlen = s.rxlen := rfl
@[simp] theorem advanceWrite_rxbuf : (advanceWrite s).rxbuf = s.rxbuf := rfl
@[simp] theorem advanceWrite_result : (advanceWrite s).result = s.result := rfl
@[simp] theorem advanceWrite_trace : (advanceWrite s).trace = s.trace := rfl
@[simp] theorem advanceWrite_refusals : (advanceWrite s).refusals = s.refusals := rfl
@[simp] theorem advanceWrite_taken : (advanceWrite s).taken = s.taken := rfl
@[simp] theorem advanceWrite_hostPort : (advanceWrite s).hostPort = s.hostPort := rfl
@[simp] theorem advanceWrite_hostTakes : (advanceWrite s).hostTakes = s.hostTakes := rfl
@[simp] theorem advanceWrite_resetLine : (advanceWrite s).resetLine = s.resetLine := rfl
@[simp] theorem advanceWrite_writeAnswers : (advanceWrite s).writeAnswers = s.writeAnswers.tail := rfl
@[simp] theorem advanceWrite_readAnswers : (advanceWrite s).readAnswers = s.readAnswers := rfl
@[simp] theorem advanceWrite_writesDrawn : (advanceWrite s).writesDrawn = s.writesDrawn + 1 := rfl
@[simp] theorem advanceWrite_readsDrawn : (advanceWrite s).readsDrawn = s.readsDrawn := rfl

@[simp] theorem advanceRead_cfg : (advanceRead s).cfg = s.cfg := rfl
@[simp] theorem advanceRead_addr : (advanceRead s).addr = s.addr := rfl
@[simp] theorem advanceRead_phase : (advanceRead s).phase = s.phase := rfl
@[simp] theorem advanceRead_cur : (advanceRead s).cur = s.cur := rfl
@[simp] theorem advanceRead_txbuf : (advanceRead s).txbuf = s.txbuf := rfl
@[simp] theorem advanceRead_waitMs : (advanceRead s).waitMs = s.waitMs := rfl
@[simp] theorem advanceRead_rxlen : (advanceRead s).rxlen = s.rxlen := rfl
@[simp] theorem advanceRead_rxbuf : (advanceRead s).rxbuf = s.rxbuf := rfl
@[simp] theorem advanceRead_result : (advanceRead s).result = s.result := rfl
@[simp] theorem advanceRead_trace : (advanceRead s).trace = s.trace := rfl
@[simp] theorem advanceRead_refusals : (advanceRead s).refusals = s.refusals := rfl
@[simp] theorem advanceRead_taken : (advanceRead s).taken = s.taken := rfl
@[simp] theorem advanceRead_hostPort : (advanceRead s).hostPort = s.hostPort := rfl
@[simp] theorem advanceRead_hostTakes : (advanceRead s).hostTakes = s.hostTakes := rfl
@[simp] theorem advanceRead_resetLine : (advanceRead s).resetLine = s.resetLine := rfl
@[simp] theorem advanceRead_writeAnswers : (advanceRead s).writeAnswers = s.writeAnswers := rfl
@[simp] theorem advanceRead_readAnswers : (advanceRead s).readAnswers = s.readAnswers.tail := rfl
@[simp] theorem advanceRead_writesDrawn : (advanceRead s).writesDrawn = s.writesDrawn := rfl
@[simp] theorem advanceRead_readsDrawn : (advanceRead s).readsDrawn = s.readsDrawn + 1 := rfl

@[simp] theorem advanceTakes_cfg : (advanceTakes s).cfg = s.cfg := rfl
@[simp] theorem advanceTakes_addr : (advanceTakes s).addr = s.addr := rfl
@[simp] theorem advanceTakes_phase : (advanceTakes s).phase = s.phase := rfl
@[simp] theorem advanceTakes_cur : (advanceTakes s).cur = s.cur := rfl
@[simp] theorem advanceTakes_txbuf : (advanceTakes s).txbuf = s.txbuf := rfl
@[simp] theorem advanceTakes_waitMs : (advanceTakes s).waitMs = s.waitMs := rfl
@[simp] theorem advanceTakes_rxlen : (advanceTakes s).rxlen = s.rxlen := rfl
@[simp] theorem advanceTakes_rxbuf : (advanceTakes s).rxbuf = s.rxbuf := rfl
@[simp] theorem advanceTakes_result : (advanceTakes s).result = s.result := rfl
@[simp] theorem advanceTakes_trace : (advanceTakes s).trace = s.trace := rfl
@[simp] theorem advanceTakes_refusals : (advanceTakes s).refusals = s.refusals := rfl
@[simp] theorem advanceTakes_taken : (advanceTakes s).taken = s.taken := rfl
@[simp] theorem advanceTakes_hostPort : (advanceTakes s).hostPort = s.hostPort := rfl
@[simp] theorem advanceTakes_hostTakes : (advanceTakes s).hostTakes = s.hostTakes.tail := rfl
@[simp] theorem advanceTakes_resetLine : (advanceTakes s).resetLine = s.resetLine := rfl
@[simp] theorem advanceTakes_writeAnswers : (advanceTakes s).writeAnswers = s.writeAnswers := rfl
@[simp] theorem advanceTakes_readAnswers : (advanceTakes s).readAnswers = s.readAnswers := rfl
@[simp] theorem advanceTakes_writesDrawn : (advanceTakes s).writesDrawn = s.writesDrawn := rfl
@[simp] theorem advanceTakes_readsDrawn : (advanceTakes s).readsDrawn = s.readsDrawn := rfl

@[simp] theorem markRefused_cfg (e : DecodeError) : (markRefused e s).cfg = s.cfg := rfl
@[simp] theorem markRefused_addr (e : DecodeError) : (markRefused e s).addr = s.addr := rfl
@[simp] theorem markRefused_phase (e : DecodeError) : (markRefused e s).phase = s.phase := rfl
@[simp] theorem markRefused_cur (e : DecodeError) : (markRefused e s).cur = s.cur := rfl
@[simp] theorem markRefused_txbuf (e : DecodeError) : (markRefused e s).txbuf = s.txbuf := rfl
@[simp] theorem markRefused_waitMs (e : DecodeError) : (markRefused e s).waitMs = s.waitMs := rfl
@[simp] theorem markRefused_rxlen (e : DecodeError) : (markRefused e s).rxlen = s.rxlen := rfl
@[simp] theorem markRefused_rxbuf (e : DecodeError) : (markRefused e s).rxbuf = s.rxbuf := rfl
@[simp] theorem markRefused_result (e : DecodeError) : (markRefused e s).result = s.result := rfl
@[simp] theorem markRefused_trace (e : DecodeError) : (markRefused e s).trace = s.trace := rfl
@[simp] theorem markRefused_refusals (e : DecodeError) : (markRefused e s).refusals = s.refusals ++ [e] := rfl
@[simp] theorem markRefused_taken (e : DecodeError) : (markRefused e s).taken = s.taken := rfl
@[simp] theorem markRefused_hostPort (e : DecodeError) : (markRefused e s).hostPort = s.hostPort := rfl
@[simp] theorem markRefused_hostTakes (e : DecodeError) : (markRefused e s).hostTakes = s.hostTakes := rfl
@[simp] theorem markRefused_resetLine (e : DecodeError) : (markRefused e s).resetLine = s.resetLine := rfl
@[simp] theorem markRefused_writeAnswers (e : DecodeError) : (markRefused e s).writeAnswers = s.writeAnswers := rfl
@[simp] theorem markRefused_readAnswers (e : DecodeError) : (markRefused e s).readAnswers = s.readAnswers := rfl
@[simp] theorem markRefused_writesDrawn (e : DecodeError) : (markRefused e s).writesDrawn = s.writesDrawn := rfl
@[simp] theorem markRefused_readsDrawn (e : DecodeError) : (markRefused e s).readsDrawn = s.readsDrawn := rfl

@[simp] theorem tick_cfg : (tick s).cfg = s.cfg := rfl
@[simp] theorem tick_addr : (tick s).addr = s.addr := rfl
@[simp] theorem tick_phase : (tick s).phase = s.phase := rfl
@[simp] theorem tick_cur : (tick s).cur = s.cur := rfl
@[simp] theorem tick_txbuf : (tick s).txbuf = s.txbuf := rfl
@[simp] theorem tick_waitMs : (tick s).waitMs = s.waitMs := rfl
@[simp] theorem tick_rxlen : (tick s).rxlen = s.rxlen := rfl
@[simp] theorem tick_rxbuf : (tick s).rxbuf = s.rxbuf := rfl
@[simp] theorem tick_result : (tick s).result = s.result := rfl
@[simp] theorem tick_trace : (tick s).trace = s.trace := rfl
@[simp] theorem tick_refusals : (tick s).refusals = s.refusals := rfl
@[simp] theorem tick_taken : (tick s).taken = s.taken := rfl
@[simp] theorem tick_hostPort : (tick s).hostPort = s.hostPort := rfl
@[simp] theorem tick_hostTakes : (tick s).hostTakes = s.hostTakes := rfl
@[simp] theorem tick_resetLine : (tick s).resetLine = s.resetLine.tail := rfl
@[simp] theorem tick_writeAnswers : (tick s).writeAnswers = s.writeAnswers := rfl
@[simp] theorem tick_readAnswers : (tick s).readAnswers = s.readAnswers := rfl
@[simp] theorem tick_writesDrawn : (tick s).writesDrawn = s.writesDrawn := rfl
@[simp] theorem tick_readsDrawn : (tick s).readsDrawn = s.readsDrawn := rfl

@[simp] theorem blockReset_cfg : (blockReset s).cfg = s.cfg := rfl
@[simp] theorem blockReset_addr : (blockReset s).addr = busAddress s.cfg.addrSel := rfl
@[simp] theorem blockReset_phase : (blockReset s).phase = .idle := rfl
@[simp] theorem blockReset_cur : (blockReset s).cur = ⟨.measure, .disabled, .high⟩ := rfl
@[simp] theorem blockReset_txbuf : (blockReset s).txbuf = ⟨0, 0⟩ := rfl
@[simp] theorem blockReset_waitMs : (blockReset s).waitMs = 0 := rfl
@[simp] theorem blockReset_rxlen : (blockReset s).rxlen = .zero := rfl
@[simp] theorem blockReset_rxbuf : (blockReset s).rxbuf = emptyRx := rfl
@[simp] theorem blockReset_result : (blockReset s).result = none := rfl
@[simp] theorem blockReset_trace : (blockReset s).trace = s.trace := rfl
@[simp] theorem blockReset_refusals : (blockReset s).refusals = s.refusals := rfl
@[simp] theorem blockReset_taken : (blockReset s).taken = s.taken := rfl
@[simp] theorem blockReset_hostPort : (blockReset s).hostPort = s.hostPort := rfl
@[simp] theorem blockReset_hostTakes : (blockReset s).hostTakes = s.hostTakes := rfl
@[simp] theorem blockReset_resetLine : (blockReset s).resetLine = s.resetLine := rfl
@[simp] theorem blockReset_writeAnswers : (blockReset s).writeAnswers = s.writeAnswers := rfl
@[simp] theorem blockReset_readAnswers : (blockReset s).readAnswers = s.readAnswers := rfl
@[simp] theorem blockReset_writesDrawn : (blockReset s).writesDrawn = s.writesDrawn := rfl
@[simp] theorem blockReset_readsDrawn : (blockReset s).readsDrawn = s.readsDrawn := rfl

@[simp] theorem consume_cfg : (consume s).cfg = s.cfg := rfl
@[simp] theorem consume_addr : (consume s).addr = s.addr := rfl
@[simp] theorem consume_phase : (consume s).phase = s.phase := rfl
@[simp] theorem consume_cur : (consume s).cur = s.cur := rfl
@[simp] theorem consume_txbuf : (consume s).txbuf = s.txbuf := rfl
@[simp] theorem consume_waitMs : (consume s).waitMs = s.waitMs := rfl
@[simp] theorem consume_rxlen : (consume s).rxlen = s.rxlen := rfl
@[simp] theorem consume_rxbuf : (consume s).rxbuf = s.rxbuf := rfl
@[simp] theorem consume_result : (consume s).result = s.result := rfl
@[simp] theorem consume_trace : (consume s).trace = s.trace := rfl
@[simp] theorem consume_refusals : (consume s).refusals = s.refusals := rfl
@[simp] theorem consume_taken : (consume s).taken = s.taken := rfl
@[simp] theorem consume_hostPort : (consume s).hostPort = s.hostPort.tail := rfl
@[simp] theorem consume_hostTakes : (consume s).hostTakes = s.hostTakes := rfl
@[simp] theorem consume_resetLine : (consume s).resetLine = s.resetLine := rfl
@[simp] theorem consume_writeAnswers : (consume s).writeAnswers = s.writeAnswers := rfl
@[simp] theorem consume_readAnswers : (consume s).readAnswers = s.readAnswers := rfl
@[simp] theorem consume_writesDrawn : (consume s).writesDrawn = s.writesDrawn := rfl
@[simp] theorem consume_readsDrawn : (consume s).readsDrawn = s.readsDrawn := rfl

@[simp] theorem present_cfg (w : HostWord) : (present w s).cfg = s.cfg := rfl
@[simp] theorem present_addr (w : HostWord) : (present w s).addr = s.addr := rfl
@[simp] theorem present_phase (w : HostWord) : (present w s).phase = .idle := rfl
@[simp] theorem present_cur (w : HostWord) : (present w s).cur = s.cur := rfl
@[simp] theorem present_txbuf (w : HostWord) : (present w s).txbuf = s.txbuf := rfl
@[simp] theorem present_waitMs (w : HostWord) : (present w s).waitMs = s.waitMs := rfl
@[simp] theorem present_rxlen (w : HostWord) : (present w s).rxlen = s.rxlen := rfl
@[simp] theorem present_rxbuf (w : HostWord) : (present w s).rxbuf = s.rxbuf := rfl
@[simp] theorem present_result (w : HostWord) : (present w s).result = s.result := rfl
@[simp] theorem present_trace (w : HostWord) : (present w s).trace = s.trace := rfl
@[simp] theorem present_refusals (w : HostWord) : (present w s).refusals = s.refusals := rfl
@[simp] theorem present_taken (w : HostWord) : (present w s).taken = s.taken := rfl
@[simp] theorem present_hostPort (w : HostWord) : (present w s).hostPort = w :: s.hostPort := rfl
@[simp] theorem present_hostTakes (w : HostWord) : (present w s).hostTakes = s.hostTakes := rfl
@[simp] theorem present_resetLine (w : HostWord) : (present w s).resetLine = if resetAsserted s then false :: s.resetLine.tail else s.resetLine := rfl
@[simp] theorem present_writeAnswers (w : HostWord) : (present w s).writeAnswers = s.writeAnswers := rfl
@[simp] theorem present_readAnswers (w : HostWord) : (present w s).readAnswers = s.readAnswers := rfl
@[simp] theorem present_writesDrawn (w : HostWord) : (present w s).writesDrawn = s.writesDrawn := rfl
@[simp] theorem present_readsDrawn (w : HostWord) : (present w s).readsDrawn = s.readsDrawn := rfl

end Sys2Proof.Machine
end

