-- ==== Sys2Proof/Laws/Ops.lean ====
section
/-! SUPPORT. What each shared operation and each step of the sequencer can answer, said once. -/

namespace Sys2Proof.Machine

/-- A request in IDLE is accepted. -/
theorem request_of_idle {s : State} (q : Request) (h : s.phase = .idle) : request q s = accept q s := by
  simp [request, h]

/-- A request in any other phase changes nothing. -/
theorem request_of_busy {s : State} (q : Request) (h : s.phase ≠ .idle) : request q s = s := by
  unfold request
  split <;> simp_all

/-- A host request's meaning is `request` on its record. -/
theorem exec_of_request {i : Instr} {q : Request} (h : i.request? = some q) (s : State) : exec i s = .next (request q s) := by
  cases i <;> simp only [Instr.request?, reduceCtorEq, Option.some.injEq] at h <;> subst h <;> rfl

/-- A command word's meaning is the encoder on its command. -/
theorem exec_of_command {i : Instr} {c : Command} (h : i.command? = some c) (s : State) : exec i s = .next (encodeInto c s) := by
  cases i <;> simp only [Instr.command?, reduceCtorEq, Option.some.injEq] at h <;> subst h <;> rfl

/-- An instruction is a host request or a command word. -/
theorem request_or_command (i : Instr) : (∃ q, i.request? = some q) ∨ (∃ c, i.command? = some c) := by
  cases i <;> simp [Instr.request?, Instr.command?]

/-- WRITE answers a next state: DELAY, or RESPOND with the transport's failure. -/
theorem writeStep_cases (s : State) :
    (writeAnswer s = .ok ∧
      writeStep s = .next (enter .delay (record (.write s.addr s.txbuf .ok) (advanceWrite s)))) ∨
    (∃ e, writeAnswer s = .err e ∧
      writeStep s = .next (raiseError (.bus e) (record (.write s.addr s.txbuf (.err e)) (advanceWrite s)))) := by
  unfold writeStep
  cases h : writeAnswer s with
  | ok => exact .inl ⟨rfl, rfl⟩
  | err e => exact .inr ⟨e, rfl, rfl⟩

/-- DELAY answers a next state: READ where a response is expected, else RESPOND with Ok(()). -/
theorem delayStep_cases (s : State) :
    (s.rxlen ≠ .zero ∧ delayStep s = .next (enter .read (record (.delay s.waitMs) s))) ∨
    (s.rxlen = .zero ∧ delayStep s = .next (respond .unit (record (.delay s.waitMs) s))) := by
  unfold delayStep
  cases h : s.rxlen <;> simp [rxBytes]

/-- READ answers a next state: CHECK with the buffer filled, or RESPOND with the transport's failure. -/
theorem readStep_cases (s : State) :
    (∃ b, readAnswer s = .ok b ∧ readStep s = .next
      (enter .check (storeRx (rxBytes s.rxlen) b
        (record (.read s.addr (rxBytes s.rxlen) (.ok (b.toList.take (rxBytes s.rxlen)))) (advanceRead s))))) ∨
    (∃ e, readAnswer s = .err e ∧ readStep s = .next
      (raiseError (.bus e) (record (.read s.addr (rxBytes s.rxlen) (.err e)) (advanceRead s)))) := by
  unfold readStep
  cases h : readAnswer s with
  | ok b => exact .inl ⟨b, rfl, rfl⟩
  | err e => exact .inr ⟨e, rfl, rfl⟩

/-- CHECK answers RESPOND with a measurement, with a flag view or with Err(Crc), or it faults. -/
theorem checkStep_cases (s : State) :
    (∃ t h, s.cur.op = .measure ∧ firstGroup s.rxbuf = some t ∧ secondGroup s.rxbuf = some h ∧ groupValid t = true ∧
      groupValid h = true ∧ checkStep s = .next (respond (.meas (convT (groupWord t)) (convRH (groupWord h))) s)) ∨
    (∃ g, s.cur.op = .status ∧ firstGroup s.rxbuf = some g ∧ groupValid g = true ∧
      checkStep s = .next (respond (.status (decodeStatus (groupWord g))) s)) ∨
    ((s.cur.op = .measure ∨ s.cur.op = .status) ∧ checkStep s = .next (raiseError .crc s)) ∨
    (∃ f, checkStep s = .fault f) := by
  unfold checkStep
  cases hop : s.cur.op with
  | reset => exact .inr (.inr (.inr ⟨_, rfl⟩))
  | clearStatus => exact .inr (.inr (.inr ⟨_, rfl⟩))
  | measure =>
    unfold checkMeasure
    cases ht : firstGroup s.rxbuf with
    | none => exact .inr (.inr (.inr ⟨_, rfl⟩))
    | some t =>
      cases hv : groupValid t with
      | false => exact .inr (.inr (.inl ⟨.inl rfl, by simp [hv]⟩))
      | true =>
        cases hh : secondGroup s.rxbuf with
        | none => exact .inr (.inr (.inr ⟨_, by simp [hv]; rfl⟩))
        | some h =>
          cases hw : groupValid h with
          | false => exact .inr (.inr (.inl ⟨.inl rfl, by simp [hv, hw]⟩))
          | true => exact .inl ⟨t, h, rfl, rfl, rfl, hv, hw, by simp [hv, hw]⟩
  | status =>
    unfold checkStatus
    cases ht : firstGroup s.rxbuf with
    | none => exact .inr (.inr (.inr ⟨_, rfl⟩))
    | some g =>
      cases hv : groupValid g with
      | false => exact .inr (.inr (.inl ⟨.inr rfl, by simp [hv]⟩))
      | true => exact .inr (.inl ⟨g, rfl, rfl, hv, by simp [hv]⟩)

/-- RESPOND answers IDLE with the result taken, or stays; without a result it faults. -/
theorem respondStep_cases (s : State) :
    (∃ r, s.result = some r ∧ hostTakesNow s = true ∧ respondStep s = .next (release r (advanceTakes s))) ∨
    (∃ r, s.result = some r ∧ hostTakesNow s = false ∧ respondStep s = .next (advanceTakes s)) ∨
    (s.result = none ∧ respondStep s = .fault .respondWithoutResult) := by
  unfold respondStep
  cases hr : s.result with
  | none => exact .inr (.inr ⟨rfl, rfl⟩)
  | some r =>
    cases ht : hostTakesNow s with
    | true => exact .inl ⟨r, rfl, rfl, by simp⟩
    | false => exact .inr (.inl ⟨r, rfl, rfl, by simp⟩)

/-- IDLE waits, accepts a request, runs the encoder, or marks a refusal. -/
theorem idleStep_cases (s : State) :
    (s.hostPort = [] ∧ idleStep s = .next s) ∨
    (∃ w rest i q, s.hostPort = w :: rest ∧ decode s.cfg.cmdOpcode w = .ok i ∧ i.request? = some q ∧
      idleStep s = .next (request q (consume s))) ∨
    (∃ w rest i c, s.hostPort = w :: rest ∧ decode s.cfg.cmdOpcode w = .ok i ∧ i.command? = some c ∧
      idleStep s = .next (encodeInto c (consume s))) ∨
    (∃ w rest e, s.hostPort = w :: rest ∧ decode s.cfg.cmdOpcode w = .error e ∧
      idleStep s = .next (markRefused e (consume s))) := by
  unfold idleStep
  cases hp : s.hostPort with
  | nil => exact .inl ⟨rfl, rfl⟩
  | cons w rest =>
    cases hd : decode s.cfg.cmdOpcode w with
    | error e => exact .inr (.inr (.inr ⟨w, rest, e, rfl, hd, by simp [hd]⟩))
    | ok i =>
      rcases request_or_command i with ⟨q, hq⟩ | ⟨c, hc⟩
      · exact .inr (.inl ⟨w, rest, i, q, rfl, hd, hq, by simp [hd, exec_of_request hq]⟩)
      · exact .inr (.inr (.inl ⟨w, rest, i, c, rfl, hd, hc, by simp [hd, exec_of_command hc]⟩))

/-- A step is a block reset or the step of the phase. -/
theorem step_cases (s : State) :
    (resetAsserted s = true ∧ step s = .next (blockReset (tick s))) ∨
    (resetAsserted s = false ∧ step s = phaseStep (tick s)) := by
  unfold step sampledStep
  cases resetAsserted s <;> simp

/-- Where block reset is not asserted, a step is the step of the phase. -/
theorem step_of_no_reset {s : State} (h : s.resetLine.head? ≠ some true) : step s = phaseStep (tick s) := by
  rcases step_cases s with ⟨e, _⟩ | ⟨_, e⟩
  · unfold resetAsserted at e
    cases hx : s.resetLine <;> simp_all
  · exact e

/-- After a fill, the cells below `n` hold the bytes read and the others what they held. -/
theorem fillRx_getElem (n : Nat) (b : Vector Byte 6) (buf : Vector (Option Byte) 6) (i : Nat) (h : i < 6) :
    (fillRx n b buf)[i] = if i < n then some b[i] else buf[i] := by
  simp [fillRx]

/-- A run of `k + 1` steps whose first step goes on is the run of `k` steps from there. -/
theorem run_of_step {M : Host.Core} {s t : M.State} (h : M.step s = .next t) (k : Nat) : M.run (k + 1) s = M.run k t := by
  rw [Host.Core.run, h]

end Sys2Proof.Machine
end

