-- ==== Sys2Proof/Laws/PerInstr.lean ====
section
/-! SUPPORT. The family EncodedLength: how many bytes an instruction's word has (spec/30_encoding.md R60, R70). -/

namespace Sys2Proof.Laws.EncodedLength

/-- A command word is two bytes long and a request word one, under every opcode table (R60, R70). -/
def Statement (i : Instr) : Prop :=
  ∀ t : OpcodeTable, (encode t i).bytes.length = if i.command?.isSome then 2 else 1

theorem cmdSsStretchHigh : Statement .cmdSsStretchHigh := fun _ => rfl
theorem cmdSsStretchMedium : Statement .cmdSsStretchMedium := fun _ => rfl
theorem cmdSsStretchLow : Statement .cmdSsStretchLow := fun _ => rfl
theorem cmdSsNostretchHigh : Statement .cmdSsNostretchHigh := fun _ => rfl
theorem cmdSsNostretchMedium : Statement .cmdSsNostretchMedium := fun _ => rfl
theorem cmdSsNostretchLow : Statement .cmdSsNostretchLow := fun _ => rfl
theorem cmdPeriodic0p5High : Statement .cmdPeriodic0p5High := fun _ => rfl
theorem cmdPeriodic0p5Medium : Statement .cmdPeriodic0p5Medium := fun _ => rfl
theorem cmdPeriodic0p5Low : Statement .cmdPeriodic0p5Low := fun _ => rfl
theorem cmdPeriodic1High : Statement .cmdPeriodic1High := fun _ => rfl
theorem cmdPeriodic1Medium : Statement .cmdPeriodic1Medium := fun _ => rfl
theorem cmdPeriodic1Low : Statement .cmdPeriodic1Low := fun _ => rfl
theorem cmdPeriodic2High : Statement .cmdPeriodic2High := fun _ => rfl
theorem cmdPeriodic2Medium : Statement .cmdPeriodic2Medium := fun _ => rfl
theorem cmdPeriodic2Low : Statement .cmdPeriodic2Low := fun _ => rfl
theorem cmdPeriodic4High : Statement .cmdPeriodic4High := fun _ => rfl
theorem cmdPeriodic4Medium : Statement .cmdPeriodic4Medium := fun _ => rfl
theorem cmdPeriodic4Low : Statement .cmdPeriodic4Low := fun _ => rfl
theorem cmdPeriodic10High : Statement .cmdPeriodic10High := fun _ => rfl
theorem cmdPeriodic10Medium : Statement .cmdPeriodic10Medium := fun _ => rfl
theorem cmdPeriodic10Low : Statement .cmdPeriodic10Low := fun _ => rfl
theorem cmdFetchData : Statement .cmdFetchData := fun _ => rfl
theorem cmdArt : Statement .cmdArt := fun _ => rfl
theorem cmdBreak : Statement .cmdBreak := fun _ => rfl
theorem cmdSoftReset : Statement .cmdSoftReset := fun _ => rfl
theorem cmdHeaterEnable : Statement .cmdHeaterEnable := fun _ => rfl
theorem cmdHeaterDisable : Statement .cmdHeaterDisable := fun _ => rfl
theorem cmdReadStatus : Statement .cmdReadStatus := fun _ => rfl
theorem cmdClearStatus : Statement .cmdClearStatus := fun _ => rfl
theorem measure (cs : ClockStretch) (rep : Repeatability) : Statement (.measure cs rep) := fun _ => rfl
theorem reset : Statement .reset := fun _ => rfl
theorem status : Statement .status := fun _ => rfl
theorem clearStatus : Statement .clearStatus := fun _ => rfl

end Sys2Proof.Laws.EncodedLength
end

