-- ==== Sys2Proof/Tests/Slice0.lean ====
section
/-! SUPPORT. The model's own tests. Expected results are the spec's (spec/95_test_vectors.md and the rules named), and each
statement that has hypotheses has a witness here that meets them. -/

namespace Sys2Proof.Tests

open Sys2Proof Sys2Proof.Machine

/-! ### Well-formedness: an ill-formed term for each check -/

/-- R71: RESET with `cs` = Enabled is no legal record, and RESET with `rep` = Low is none; MEASURE with both is one. -/
theorem test_request_wellFormed :
    Request.wellFormed ⟨.reset, .enabled, .high⟩ = false ∧ Request.wellFormed ⟨.status, .disabled, .low⟩ = false ∧
    Request.wellFormed ⟨.clearStatus, .enabled, .medium⟩ = false ∧ Request.wellFormed ⟨.measure, .enabled, .low⟩ = true := by
  decide

/-- R80: a table with two equal words is not legal, nor is one whose SingleShot(Enabled, High) is not 0x2C06. -/
theorem test_table_legal :
    OpcodeTable.legal { OpcodeTable.sht3x with heaterEnable := 0x3066 } = false ∧
    OpcodeTable.legal { OpcodeTable.sht3x with ssStretchHigh := 0x2C07 } = false ∧
    OpcodeTable.legal { OpcodeTable.sht3x with fetchData := 0xE001 } = true := by
  decide

/-- Every instruction is well formed by its type. -/
theorem test_instr_wellFormed : Instr.wellFormed .cmdArt = true ∧ Instr.wellFormed (.measure .enabled .low) = true := by decide

/-! ### Decoding: the word of every row, written out from spec/30_encoding.md R63 and R71 -/

/-- R81–R86. -/
theorem test_decode_single_shot :
    decodeTableWord 16 0x2C06 = some .cmdSsStretchHigh ∧
    decodeTableWord 16 0x2C0D = some .cmdSsStretchMedium ∧
    decodeTableWord 16 0x2C10 = some .cmdSsStretchLow ∧
    decodeTableWord 16 0x2400 = some .cmdSsNostretchHigh ∧
    decodeTableWord 16 0x240B = some .cmdSsNostretchMedium ∧
    decodeTableWord 16 0x2416 = some .cmdSsNostretchLow :=
  ⟨rfl, rfl, rfl, rfl, rfl, rfl⟩

/-- R87–R95. -/
theorem test_decode_periodic_slow :
    decodeTableWord 16 0x2032 = some .cmdPeriodic0p5High ∧
    decodeTableWord 16 0x2024 = some .cmdPeriodic0p5Medium ∧
    decodeTableWord 16 0x202F = some .cmdPeriodic0p5Low ∧
    decodeTableWord 16 0x2130 = some .cmdPeriodic1High ∧
    decodeTableWord 16 0x2126 = some .cmdPeriodic1Medium ∧
    decodeTableWord 16 0x212D = some .cmdPeriodic1Low ∧
    decodeTableWord 16 0x2236 = some .cmdPeriodic2High ∧
    decodeTableWord 16 0x2220 = some .cmdPeriodic2Medium ∧
    decodeTableWord 16 0x222B = some .cmdPeriodic2Low :=
  ⟨rfl, rfl, rfl, rfl, rfl, rfl, rfl, rfl, rfl⟩

/-- R96–R101. -/
theorem test_decode_periodic_fast :
    decodeTableWord 16 0x2334 = some .cmdPeriodic4High ∧
    decodeTableWord 16 0x2322 = some .cmdPeriodic4Medium ∧
    decodeTableWord 16 0x2329 = some .cmdPeriodic4Low ∧
    decodeTableWord 16 0x2737 = some .cmdPeriodic10High ∧
    decodeTableWord 16 0x2721 = some .cmdPeriodic10Medium ∧
    decodeTableWord 16 0x272A = some .cmdPeriodic10Low :=
  ⟨rfl, rfl, rfl, rfl, rfl, rfl⟩

/-- R102–R109. -/
theorem test_decode_other :
    decodeTableWord 16 0xE000 = some .cmdFetchData ∧
    decodeTableWord 16 0x2B32 = some .cmdArt ∧
    decodeTableWord 16 0x3093 = some .cmdBreak ∧
    decodeTableWord 16 0x30A2 = some .cmdSoftReset ∧
    decodeTableWord 16 0x306D = some .cmdHeaterEnable ∧
    decodeTableWord 16 0x3066 = some .cmdHeaterDisable ∧
    decodeTableWord 16 0xF32D = some .cmdReadStatus ∧
    decodeTableWord 16 0x3041 = some .cmdClearStatus :=
  ⟨rfl, rfl, rfl, rfl, rfl, rfl, rfl, rfl⟩
/-- R71: the request words. -/
theorem test_decode_requests :
    decodeTableWord 8 0x00 = some (.measure .disabled .high) ∧ decodeTableWord 8 0x04 = some (.measure .enabled .high) ∧
    decodeTableWord 8 0x08 = some (.measure .disabled .medium) ∧ decodeTableWord 8 0x0C = some (.measure .enabled .medium) ∧
    decodeTableWord 8 0x10 = some (.measure .disabled .low) ∧ decodeTableWord 8 0x14 = some (.measure .enabled .low) ∧
    decodeTableWord 8 0x01 = some .reset ∧ decodeTableWord 8 0x02 = some .status ∧
    decodeTableWord 8 0x03 = some .clearStatus := by decide

/-- 95 V2: the refused words listed there, each with the reason's name. -/
theorem test_decode_refusals :
    decodeReq 0x18 = .error (.reservedRepeatability 0x18) ∧ decodeReq 0x1C = .error (.reservedRepeatability 0x1C) ∧
    decodeReq 0x05 = .error (.operandGiven 0x05) ∧ decodeReq 0x09 = .error (.operandGiven 0x09) ∧
    decodeReq 0x06 = .error (.operandGiven 0x06) ∧ decodeReq 0x0B = .error (.operandGiven 0x0B) ∧
    decodeReq 0x20 = .error (.reservedBits 0x20) ∧ decodeReq 0x80 = .error (.reservedBits 0x80) ∧
    decodeReq 0xFF = .error (.reservedBits 0xFF) := ⟨rfl, rfl, rfl, rfl, rfl, rfl, rfl, rfl, rfl⟩

/-- R64: a word that is no command, and lists of bytes of no length of this block. -/
theorem test_decode_unlisted :
    decodeCommand OpcodeTable.sht3x 0x2C07 = .error (.notACommand 0x2C07) ∧
    decodeBytes OpcodeTable.sht3x [] = none ∧ decodeBytes OpcodeTable.sht3x [0x2C, 0x06, 0x00] = none := ⟨rfl, rfl, rfl⟩

/-- R70, R41: the encoder's words, and a command word's bytes in bus order. -/
theorem test_encode :
    encode OpcodeTable.sht3x (.measure .enabled .low) = .request 0x14 ∧ encode OpcodeTable.sht3x .clearStatus = .request 0x03 ∧
    (encode OpcodeTable.sht3x .cmdReadStatus).bytes = [0xF3, 0x2D] := by decide

/-- R74: a line of the request syntax, and one that is none. -/
theorem test_request_text :
    requestOfText "MEASURE nostretch, low" = some ⟨.measure, .disabled, .low⟩ ∧ requestOfText "MEASURE" = none := by decide

/-! ### The functions, on the spec's vectors -/

set_option maxRecDepth 10000 in
/-- 95 V3. -/
theorem test_crc_vectors :
    crc8 0xBE 0xEF = 0x92 ∧ crc8 0x80 0x00 = 0xA2 ∧ crc8 0x80 0x10 = 0xE1 ∧ crc8 0x5E 0x8F = 0x5F ∧ crc8 0x66 0x66 = 0x93 ∧
    crc8 0x40 0x00 = 0x08 ∧ crc8 0x20 0x00 = 0x5D ∧ crc8 0xAC 0x13 = 0xDA := by decide

/-- 95 V4, the rows that tell the divisors apart and those around them. -/
theorem test_conversion_vectors :
    (convT 0x6666).toInt = 2500 ∧ (convRH 0x6666).toNat = 4000 ∧ (convT 0x0100).toInt = -4432 ∧ (convRH 0x0100).toNat = 39 ∧
    (convT 0x4000).toInt = -125 ∧ (convRH 0x41D4).toNat = 2571 ∧ (convT 0xC000).toInt = 8625 ∧ (convT 0xFFFF).toInt = 13000 ∧
    (convRH 0xFFFF).toNat = 10000 := by decide

/-- 95 V5: 0x8010 and 0x0C00. -/
theorem test_status_vectors :
    decodeStatus 0x8010 = 0x8010 ∧ alertPending 0x8010 = true ∧ systemResetDetected 0x8010 = true ∧ heaterOn 0x8010 = false ∧
    rhTrackingAlert 0x0C00 = true ∧ tTrackingAlert 0x0C00 = true ∧ lastCommandStatus 0x0C00 = false ∧
    writeChecksumStatus 0x0C00 = false := by decide

/-- R75: two results in flat form, and a kind that is never produced. -/
theorem test_response :
    responseOf (.err (.bus (errorDetail 7))) = ⟨4, .detail (errorDetail 7)⟩ ∧ resultOf ⟨3, .none⟩ = some (.err .crc) ∧ resultOf ⟨5, .none⟩ = none ∧
    resultOf ⟨1, .flags 0⟩ = none := ⟨rfl, rfl, rfl, rfl⟩

/-! ### Small states -/

/-- After reset, with the host presenting `w`. -/
def presented (w : HostWord) : State := { State.reset with hostPort := [w] }

/-- After reset, in phase `p` of the request `q`, with the transport's next answers scripted. -/
def serving (p : Phase) (q : Request) (w : WriteAnswer) (r : ReadAnswer) : State :=
  { accept q State.reset with phase := p, writeAnswers := [w], readAnswers := [r] }

/-- The STATUS request. -/
def statusReq : Request := ⟨.status, .disabled, .high⟩

/-- The RESET request. -/
def resetReq : Request := ⟨.reset, .disabled, .high⟩

/-- The MEASURE request with stretching and high repeatability. -/
def measureReq : Request := ⟨.measure, .enabled, .high⟩

/-- The response of 95 L1.5. -/
def goodMeasure : ReadAnswer := .ok #v[0x62, 0x31, 0xF9, 0x6F, 0xAC, 0xCC]

/-- CHECK of a request whose response buffer holds `b`. -/
def checking (q : Request) (b : Vector (Option Byte) 6) : State :=
  { accept q State.reset with phase := .check, rxbuf := b }

/-- RESPOND with a result, the host taking it after two more steps. -/
def responding : State :=
  { accept resetReq State.reset with phase := .respond, result := some (.ok .unit), hostTakes := [false, false, true] }

/-- DELAY of a STATUS whose write was answered Ok. -/
def delaying : State :=
  { serving .delay statusReq .ok goodMeasure with trace := [.write 0x44 ⟨0xF3, 0x2D⟩ .ok] }

/-! ### One step of the machine -/

/-- L1.5: MEASURE stretch, high as the first instruction after reset: accepted, its frame and its wait. -/
theorem test_measure_accepted :
    ∃ t, step (State.reset.withFetchWord 8 0x04) = .next t ∧ t.phase = .write ∧ t.txbuf = ⟨0x2C, 0x06⟩ ∧ t.waitMs = 15 ∧
      t.rxlen = .six ∧ t.cur = measureReq := ⟨_, rfl, rfl, rfl, rfl, rfl, rfl⟩

/-- RESET, STATUS and CLEAR_STATUS as the first instruction after reset: their frames (95 V6.7, V6.8, V6.10). -/
theorem test_others_accepted :
    (∃ t, step (State.reset.withFetchWord 8 0x01) = .next t ∧ t.txbuf = ⟨0x30, 0xA2⟩ ∧ t.rxlen = .zero) ∧
    (∃ t, step (State.reset.withFetchWord 8 0x02) = .next t ∧ t.txbuf = ⟨0xF3, 0x2D⟩ ∧ t.rxlen = .three) ∧
    (∃ t, step (State.reset.withFetchWord 8 0x03) = .next t ∧ t.txbuf = ⟨0x30, 0x41⟩ ∧ t.waitMs = 1) :=
  ⟨⟨_, rfl, rfl, rfl⟩, ⟨_, rfl, rfl, rfl⟩, ⟨_, rfl, rfl, rfl⟩⟩

/-- R102: fetch-data as the first instruction after reset: TXBUF alone. -/
theorem test_command_encodes :
    ∃ t, step (State.reset.withFetchWord 16 0xE000) = .next t ∧ t.txbuf = ⟨0xE0, 0x00⟩ ∧ t.phase = .idle ∧ t.trace = [] :=
  ⟨_, rfl, rfl, rfl, rfl⟩

/-- 95 P4: the refused word 0x18 leaves IDLE, no event, no result, one mark. -/
theorem test_refused_word :
    ∃ t, step (presented (.request 0x18)) = .next t ∧ t.phase = .idle ∧ t.trace = [] ∧ t.result = none ∧
      t.refusals = [.reservedRepeatability 0x18] := ⟨_, rfl, rfl, rfl, rfl, rfl⟩

/-- 95 V6.1: a failed write ends the transaction with Bus. -/
theorem test_write_failure :
    ∃ t, step (serving .write measureReq (.err (errorDetail 9)) goodMeasure) = .next t ∧ t.phase = .respond ∧
      t.result = some (.err (.bus (errorDetail 9))) ∧ t.trace = [.write 0x44 ⟨0x2C, 0x06⟩ (.err (errorDetail 9))] := ⟨_, rfl, rfl, rfl, rfl⟩

/-- R43, R52: a STATUS's read of three bytes may follow its write and its wait. -/
theorem test_read_follows_its_command :
    mayFollow State.reset.cfg [.write 0x44 ⟨0xF3, 0x2D⟩ .ok, .delay 1] (.read 0x44 3 (.err (errorDetail 1))) :=
  ⟨statusReq, [], rfl, rfl, by decide, rfl⟩

/-- 95 V6.7: RESET's delay ends it with Ok(()) and no read. -/
theorem test_reset_delay :
    ∃ t, step (serving .delay resetReq .ok goodMeasure) = .next t ∧ t.phase = .respond ∧ t.result = some (.ok .unit) ∧
      t.trace = [.delay 1] := ⟨_, rfl, rfl, rfl, rfl⟩

/-- L1.7: STATUS reads three bytes into the first three cells; the others keep no value. -/
theorem test_status_read :
    ∃ t, step (serving .read statusReq .ok (.ok #v[0x80, 0x01, 0x93, 0x55, 0x55, 0x55])) = .next t ∧ t.phase = .check ∧
      t.trace = [.read 0x44 3 (.ok [0x80, 0x01, 0x93])] ∧
      t.rxbuf = #v[some 0x80, some 0x01, some 0x93, none, none, none] := ⟨_, rfl, rfl, rfl, by decide⟩

set_option maxRecDepth 10000 in
/-- L1.5: the check converts both words. -/
theorem test_measure_check :
    ∃ t, step (checking measureReq #v[some 0x62, some 0x31, some 0xF9, some 0x6F, some 0xAC, some 0xCC]) = .next t ∧
      t.result = some (.ok (.meas 2212 4362)) := ⟨_, rfl, by decide⟩

set_option maxRecDepth 10000 in
/-- L1.6, third: a humidity bit flipped gives Err(Crc), not half a measurement. -/
theorem test_measure_crc :
    ∃ t, step (checking measureReq #v[some 0x62, some 0x31, some 0xF9, some 0x6F, some 0xAD, some 0xCC]) = .next t ∧
      t.result = some (.err .crc) := ⟨_, rfl, by decide⟩

set_option maxRecDepth 10000 in
/-- V5.2: the CRC is over the raw word. -/
theorem test_status_check :
    (∃ t, step (checking statusReq #v[some 0xFF, some 0xFF, some 0xAC, none, none, none]) = .next t ∧
      t.result = some (.ok (.status 0xAC13))) ∧
    (∃ t, step (checking statusReq #v[some 0xFF, some 0xFF, some 0xDA, none, none, none]) = .next t ∧
      t.result = some (.err .crc)) := ⟨⟨_, rfl, by decide⟩, ⟨_, rfl, by decide⟩⟩

/-- 95 V6.11: with ADDR_SEL = 1 the frames go to 0x45. -/
theorem test_high_address : (State.construct ⟨1, OpcodeTable.sht3x⟩).addr = 0x45 ∧ State.reset.addr = 0x44 := by decide

/-! ### Witnesses: the hypotheses of each statement are met -/

theorem test_witness_legal_table : OpcodeTable.sht3x.legal = true := by decide

theorem test_witness_decoded_word :
    decode OpcodeTable.sht3x (.request 0x14) = .ok (.measure .enabled .low) ∧
    decode OpcodeTable.sht3x (.command 0x2C06) = .ok .cmdSsStretchHigh := ⟨rfl, rfl⟩

theorem test_witness_refused_word :
    (0x18 : Byte) ∉ ([0x00, 0x04, 0x08, 0x0C, 0x10, 0x14, 0x01, 0x02, 0x03] : List Byte) ∧
    decodeReq 0x18 = .error (.reservedRepeatability 0x18) ∧ (presented (.request 0x18)).phase = .idle ∧
    (presented (.request 0x18)).resetLine.head? ≠ some true ∧ (presented (.request 0x18)).hostPort = [.request 0x18] :=
  ⟨by decide, rfl, rfl, by decide, rfl⟩

theorem test_witness_unlisted_word :
    (presented (.command 0x2C07)).hostPort = [.command 0x2C07] ∧ (presented (.command 0x2C07)).phase = .idle ∧
    (0x2C07 : Word16) ∉ (presented (.command 0x2C07)).cfg.cmdOpcode.words := ⟨rfl, rfl, by decide⟩

set_option maxRecDepth 10000 in
theorem test_witness_valid_group : groupValid ⟨0x62, 0x31, 0xF9⟩ = true := by decide

theorem test_witness_ordered_words : (0x0000 : Word16).toNat ≤ (0xFFFF : Word16).toNat := by decide

theorem test_witness_response : resultOf ⟨2, .flags 0x8001⟩ = some (.ok (.status 0x8001)) := by decide

theorem test_witness_request_in_list : statusReq ∈ Request.all ∧ statusReq.wellFormed = true := by decide

theorem test_witness_default_table_idle :
    State.reset.cfg.cmdOpcode = OpcodeTable.sht3x ∧ State.reset.phase = .idle ∧ calm State.reset :=
  ⟨rfl, rfl, List.not_mem_nil⟩

theorem test_witness_exec_next :
    ∃ t, exec .cmdFetchData State.reset = .next t ∧ Instr.command? .cmdFetchData = some .fetchData := ⟨_, rfl, rfl⟩

theorem test_witness_busy : Instr.request? .status = some statusReq ∧ delaying.phase ≠ .idle ∧ ∃ t, step delaying = .next t :=
  ⟨rfl, by decide, ⟨_, rfl⟩⟩

theorem test_witness_presented :
    (presented (.request 0x02)).phase = .idle ∧ (presented (.request 0x02)).resetLine.head? ≠ some true ∧
    (presented (.request 0x02)).hostPort = [.request 0x02] ∧
    decode (presented (.request 0x02)).cfg.cmdOpcode (.request 0x02) = .ok .status := ⟨rfl, by decide, rfl, rfl⟩

theorem test_witness_idle_waits :
    State.reset.phase = .idle ∧ State.reset.resetLine.head? ≠ some true ∧ State.reset.hostPort = [] := by decide

theorem test_witness_placed : decodeTableWord 16 0x30A2 = some .cmdSoftReset ∧ decodeTableWord 8 0x01 = some .reset := ⟨rfl, rfl⟩

/-- WRITE, with either answer. -/
theorem test_witness_write :
    (serving .write statusReq .ok goodMeasure).phase = .write ∧
    (serving .write statusReq .ok goodMeasure).resetLine.head? ≠ some true ∧
    writeAnswer (serving .write statusReq .ok goodMeasure) = .ok ∧
    writeAnswer (serving .write statusReq (.err (errorDetail 3)) goodMeasure) = .err (errorDetail 3) := ⟨rfl, by decide, rfl, rfl⟩

/-- DELAY, with and without a response to come. -/
theorem test_witness_delay :
    (serving .delay statusReq .ok goodMeasure).phase = .delay ∧
    rxBytes (serving .delay statusReq .ok goodMeasure).rxlen = 3 ∧
    rxBytes (serving .delay resetReq .ok goodMeasure).rxlen = 0 := ⟨rfl, rfl, rfl⟩

/-- READ, with either answer. -/
theorem test_witness_read :
    (serving .read measureReq .ok goodMeasure).phase = .read ∧
    readAnswer (serving .read measureReq .ok goodMeasure) = goodMeasure ∧
    readAnswer (serving .read measureReq .ok (.err (errorDetail 4))) = .err (errorDetail 4) := ⟨rfl, rfl, rfl⟩

set_option maxRecDepth 10000 in
/-- CHECK of MEASURE and of STATUS with valid and with invalid groups, and with an empty cell. -/
theorem test_witness_check :
    (checking measureReq #v[some 0x62, some 0x31, some 0xF9, some 0x6F, some 0xAC, some 0xCC]).phase = .check ∧
    (checking measureReq emptyRx).cur.op = .measure ∧ (checking statusReq emptyRx).cur.op = .status ∧
    (checking statusReq emptyRx).resetLine.head? ≠ some true ∧ (checking statusReq emptyRx).rxbuf[0] = none ∧
    (crc8 0x62 0x31 = 0xF9 ∧ crc8 0x6F 0xAC = 0xCC ∧ crc8 0x6F 0xAD ≠ 0xCC) :=
  ⟨rfl, rfl, rfl, by decide, rfl, by decide⟩

set_option maxRecDepth 10000 in
/-- CHECK of MEASURE with a valid first group and an empty cell in the second. -/
theorem test_witness_second_group_empty :
    (checking measureReq #v[some 0x62, some 0x31, some 0xF9, some 0x6F, some 0xAC, none]).cur.op = .measure ∧
    (checking measureReq #v[some 0x62, some 0x31, some 0xF9, some 0x6F, some 0xAC, none]).rxbuf[2] = some 0xF9 ∧
    (checking measureReq #v[some 0x62, some 0x31, some 0xF9, some 0x6F, some 0xAC, none]).rxbuf[5] = none ∧
    crc8 0x62 0x31 = 0xF9 := ⟨rfl, rfl, rfl, by decide⟩

/-- RESPOND with the host taking the result after two steps, and at once. -/
theorem test_witness_responding :
    responding.phase = .respond ∧ responding.result = some (.ok .unit) ∧ calm responding ∧
    responding.hostTakes = List.replicate 2 false ++ true :: [] ∧
    ({ responding with hostTakes := [true] } : State).hostTakes = List.replicate 0 false ++ true :: [] :=
  ⟨rfl, rfl, List.not_mem_nil, rfl, rfl⟩

/-- Block reset asserted in the middle of a transaction. -/
theorem test_witness_block_reset :
    ({ delaying with resetLine := [true] } : State).resetLine.head? = some true ∧
    ∃ t, step { delaying with resetLine := [true] } = .next t ∧ t.phase = .idle := ⟨rfl, ⟨_, rfl, rfl⟩⟩

/-- The invariants hold of a state in the middle of a transaction, with block reset not to come. -/
theorem test_witness_invariants : BlockInv delaying ∧ TraceInv delaying ∧ calm delaying ∧ delaying.phase ≠ .idle := by
  refine ⟨⟨rfl, ?_, ?_, ?_, ?_, ?_, ?_⟩, ⟨?_, ?_, ?_, ?_⟩, List.not_mem_nil, by decide⟩
  · simp [delaying, serving]
  · intro _; exact ⟨rfl, rfl, rfl, rfl⟩
  · intro _; rfl
  · intro _; decide
  · intro h; exact absurd h (by decide)
  · intro r h; exact absurd h (by simp [delaying, serving])
  · intro e he
    obtain rfl : e = .write 0x44 ⟨0xF3, 0x2D⟩ .ok := by simpa [delaying] using he
    exact ⟨rfl, 1, statusReq, rfl, rfl, rfl⟩
  · intro past e later h
    obtain ⟨rfl, rfl, -⟩ : past = [] ∧ e = .write 0x44 ⟨0xF3, 0x2D⟩ .ok ∧ later = [] := by
      cases past <;> simp_all [delaying]
    trivial
  · intro _; exact ⟨[], rfl⟩
  · intro h; exact absurd h (by decide)

set_option maxRecDepth 10000 in
/-- A step that raises Bus on a write and on a read, and one that raises Crc. -/
theorem test_witness_error_entry :
    (∃ t, step (serving .write statusReq (.err (errorDetail 3)) goodMeasure) = .next t ∧ t.result = some (.err (.bus (errorDetail 3)))) ∧
    (∃ t, step (serving .read statusReq .ok (.err (errorDetail 4))) = .next t ∧ t.result = some (.err (.bus (errorDetail 4)))) ∧
    (∃ t, step (checking statusReq #v[some 0, some 0, some 0, none, none, none]) = .next t ∧ t.result = some (.err .crc)) :=
  ⟨⟨_, rfl, rfl⟩, ⟨_, rfl, rfl⟩, ⟨_, rfl, by decide⟩⟩

/-- Each kind of answer of the transport in an idle state that can accept a request. -/
theorem test_witness_answers :
    writeAnswer (serving .idle measureReq .ok goodMeasure) = .ok ∧
    readAnswer (serving .idle measureReq .ok goodMeasure) = .ok #v[0x62, 0x31, 0xF9, 0x6F, 0xAC, 0xCC] ∧
    readAnswer (serving .idle measureReq .ok (.err (errorDetail 4))) = .err (errorDetail 4) ∧
    writeAnswer (serving .idle measureReq (.err (errorDetail 3)) goodMeasure) = .err (errorDetail 3) ∧
    calm (serving .idle measureReq .ok goodMeasure) := ⟨rfl, rfl, rfl, rfl, List.not_mem_nil⟩

/-- Two idle states that differ in the transaction registers and the trace have the same future view. -/
theorem test_witness_same_future :
    futureView State.reset = futureView { State.reset with txbuf := ⟨0x2C, 0x06⟩, waitMs := 15, trace := [.delay 15] } := rfl

/-- A write's answer scripted in WRITE with no read's, a read's in READ, and a phase that draws none. -/
theorem test_witness_scripts_last :
    ({ serving .write statusReq (.err (errorDetail 3)) goodMeasure with readAnswers := [] } : State).writeAnswers ≠ [] ∧
    ({ serving .write statusReq (.err (errorDetail 3)) goodMeasure with readAnswers := [] } : State).phase = .write ∧
    (serving .read statusReq .ok goodMeasure).readAnswers ≠ [] ∧
    responding.phase ≠ .write ∧ responding.phase ≠ .read :=
  ⟨List.cons_ne_nil _ _, rfl, List.cons_ne_nil _ _, by decide, by decide⟩

/-- Two blocks at different addresses step; two at one address are refused. -/
theorem test_witness_system :
    (∃ sys, systemStep 0 [presented (.request 0x01), State.construct ⟨1, OpcodeTable.sht3x⟩] = .next sys) ∧
    ([presented (.request 0x01), State.construct ⟨1, OpcodeTable.sht3x⟩].map State.addr).Nodup ∧
    systemStep 0 [State.reset, State.reset] = .refused (.duplicateAddress 0x44) := ⟨⟨_, rfl⟩, by decide, rfl⟩

end Sys2Proof.Tests
end

section
/-! PROOFS of the state family, part 1. What one step does, as one inductive relation: the rules that the
invariant, the phase changes and the constancy of ADDR are read from. -/

namespace Sys2Proof.Machine

/-! ### One equation per branch of the step -/

/-- An asserted block reset makes the step a block reset (R221). -/
theorem step_of_reset {s : State} (h : s.resetLine.head? = some true) : step s = .next (blockReset (tick s)) := by
  have hr : resetAsserted s = true := by simp [resetAsserted, List.headD_eq_head?_getD, h]
  simp [step, sampledStep, hr]

section
variable {s : State}

theorem phaseStep_of_idle (h : s.phase = .idle) : phaseStep s = idleStep s := by simp [phaseStep, h]
theorem phaseStep_of_write (h : s.phase = .write) : phaseStep s = writeStep s := by simp [phaseStep, h]
theorem phaseStep_of_delay (h : s.phase = .delay) : phaseStep s = delayStep s := by simp [phaseStep, h]
theorem phaseStep_of_read (h : s.phase = .read) : phaseStep s = readStep s := by simp [phaseStep, h]
theorem phaseStep_of_check (h : s.phase = .check) : phaseStep s = checkStep s := by simp [phaseStep, h]
theorem phaseStep_of_respond (h : s.phase = .respond) : phaseStep s = respondStep s := by simp [phaseStep, h]

/-- With nothing at the port IDLE stays as it is. -/
theorem idleStep_of_empty (h : s.hostPort = []) : idleStep s = .next s := by simp [idleStep, h]

end

/-- The record that a request instruction spells is a legal one (R71). -/
theorem wellFormed_of_request? {i : Instr} {q : Request} (h : i.request? = some q) : q.wellFormed = true := by
  have hi := i.wellFormed_all
  rwa [Instr.wellFormed, h] at hi

/-! ### The moves of the sequencer -/

/-- What the step of the phase can do, one constructor per way (R160–R166, R172): the state before, the state after, and
what held before. -/
inductive PhaseMove (s : State) : State → Prop
  | wait (hp : s.phase = .idle) : PhaseMove s s
  | accept (q : Request) (hp : s.phase = .idle) (hq : q.wellFormed = true) : PhaseMove s (accept q (consume s))
  | encode (c : Command) (hp : s.phase = .idle) : PhaseMove s (encodeInto c (consume s))
  | refuse (e : DecodeError) (hp : s.phase = .idle) : PhaseMove s (markRefused e (consume s))
  | written (hp : s.phase = .write) (ha : writeAnswer s = .ok) :
      PhaseMove s (enter .delay (record (.write s.addr s.txbuf .ok) (advanceWrite s)))
  | writeFailed (e : TransportError) (hp : s.phase = .write) (ha : writeAnswer s = .err e) :
      PhaseMove s (raiseError (.bus e) (record (.write s.addr s.txbuf (.err e)) (advanceWrite s)))
  | waited (hp : s.phase = .delay) (hn : s.rxlen ≠ .zero) :
      PhaseMove s (enter .read (record (.delay s.waitMs) s))
  | finished (hp : s.phase = .delay) (hn : s.rxlen = .zero) :
      PhaseMove s (respond .unit (record (.delay s.waitMs) s))
  | filled (b : Vector Byte 6) (hp : s.phase = .read) (ha : readAnswer s = .ok b) :
      PhaseMove s (enter .check (storeRx (rxBytes s.rxlen) b
        (record (.read s.addr (rxBytes s.rxlen) (.ok (b.toList.take (rxBytes s.rxlen)))) (advanceRead s))))
  | readFailed (e : TransportError) (hp : s.phase = .read) (ha : readAnswer s = .err e) :
      PhaseMove s (raiseError (.bus e) (record (.read s.addr (rxBytes s.rxlen) (.err e)) (advanceRead s)))
  | measured (t h : Group) (hp : s.phase = .check) (hop : s.cur.op = .measure) :
      PhaseMove s (respond (.meas (convT (groupWord t)) (convRH (groupWord h))) s)
  | flagged (g : Group) (hp : s.phase = .check) (hop : s.cur.op = .status) :
      PhaseMove s (respond (.status (decodeStatus (groupWord g))) s)
  | crcFailed (hp : s.phase = .check) (hop : s.cur.op = .measure ∨ s.cur.op = .status) :
      PhaseMove s (raiseError .crc s)
  | taken (r : Result) (hp : s.phase = .respond) (hr : s.result = some r) : PhaseMove s (release r (advanceTakes s))
  | offered (r : Result) (hp : s.phase = .respond) (hr : s.result = some r) : PhaseMove s (advanceTakes s)

/-- A next state that IDLE answers is reached by one of its four moves. -/
theorem phaseMove_of_idleStep {s t : State} (hp : s.phase = .idle) (h : idleStep s = .next t) : PhaseMove s t := by
  rcases idleStep_cases s with ⟨_, e⟩ | ⟨_, _, i, q, _, _, hq, e⟩ | ⟨_, _, _, c, _, _, _, e⟩ | ⟨_, _, d, _, _, e⟩ <;>
    rw [e] at h <;> cases h
  · exact .wait hp
  · rw [request_of_idle q (by simpa using hp)]
    exact .accept q hp (wellFormed_of_request? hq)
  · exact .encode c hp
  · exact .refuse d hp

/-- A next state that CHECK answers is reached by one of its three moves. -/
theorem phaseMove_of_checkStep {s t : State} (hp : s.phase = .check) (h : checkStep s = .next t) : PhaseMove s t := by
  rcases checkStep_cases s with ⟨g, g', hop, _, _, _, _, e⟩ | ⟨g, hop, _, _, e⟩ | ⟨hop, e⟩ | ⟨_, e⟩ <;>
    rw [e] at h <;> cases h
  · exact .measured g g' hp hop
  · exact .flagged g hp hop
  · exact .crcFailed hp hop

/-- A next state that the step of the phase answers is reached by a move. -/
theorem phaseMove_of_phaseStep {s t : State} (h : phaseStep s = .next t) : PhaseMove s t := by
  cases hp : s.phase with
  | idle => exact phaseMove_of_idleStep hp (phaseStep_of_idle hp ▸ h)
  | write =>
    rw [phaseStep_of_write hp] at h
    rcases writeStep_cases s with ⟨ha, e⟩ | ⟨d, ha, e⟩ <;> rw [e] at h <;> cases h
    · exact .written hp ha
    · exact .writeFailed d hp ha
  | delay =>
    rw [phaseStep_of_delay hp] at h
    rcases delayStep_cases s with ⟨hn, e⟩ | ⟨hn, e⟩ <;> rw [e] at h <;> cases h
    · exact .waited hp hn
    · exact .finished hp hn
  | read =>
    rw [phaseStep_of_read hp] at h
    rcases readStep_cases s with ⟨b, ha, e⟩ | ⟨d, ha, e⟩ <;> rw [e] at h <;> cases h
    · exact .filled b hp ha
    · exact .readFailed d hp ha
  | check => exact phaseMove_of_checkStep hp (phaseStep_of_check hp ▸ h)
  | respond =>
    rw [phaseStep_of_respond hp] at h
    rcases respondStep_cases s with ⟨r, hr, _, e⟩ | ⟨r, hr, _, e⟩ | ⟨_, e⟩ <;> rw [e] at h <;> cases h
    · exact .taken r hp hr
    · exact .offered r hp hr

/-- A step that goes on is a block reset or, that input not asserted, a move of the phase. -/
theorem step_next_cases {s t : State} (h : step s = .next t) :
    (s.resetLine.head? = some true ∧ t = blockReset (tick s)) ∨
    (s.resetLine.head? ≠ some true ∧ PhaseMove (tick s) t) := by
  by_cases hr : s.resetLine.head? = some true
  · rw [step_of_reset hr] at h
    cases h
    exact .inl ⟨hr, rfl⟩
  · rw [step_of_no_reset hr] at h
    exact .inr ⟨hr, phaseMove_of_phaseStep h⟩

/-! ### Phase changes, ADDR and the construction inputs -/

/-- A move changes PHASE as R23 lists, or stays in IDLE or in RESPOND. -/
theorem PhaseMove.phase_listed {s t : State} (h : PhaseMove s t) :
    (s.phase, t.phase) ∈ ([(.idle, .write), (.write, .delay), (.write, .respond),
      (.delay, .read), (.delay, .respond), (.read, .check), (.read, .respond), (.check, .respond), (.respond, .idle),
      (.idle, .idle), (.respond, .respond)] : List (Phase × Phase)) := by
  cases h <;> simp [*]

/-- A move writes neither the construction inputs nor ADDR. -/
theorem PhaseMove.cfg_addr {s t : State} (h : PhaseMove s t) : t.cfg = s.cfg ∧ t.addr = s.addr := by
  cases h <;> exact ⟨rfl, rfl⟩

/-- Settles O46, by the moves of the step. -/
theorem phaseChangesAreTheListedOnes : Obligations.PhaseChangesAreTheListedOnes := by
  intro s t h
  rcases step_next_cases h with ⟨hr, rfl⟩ | ⟨hr, hm⟩
  · exact ⟨fun _ => rfl, fun hn => absurd hr hn⟩
  · exact ⟨fun hy => absurd hy hr, fun _ => hm.phase_listed⟩

/-- Settles O47: no move writes ADDR, and block reset gives it the selected address again. -/
theorem addressIsImmutable : Obligations.AddressIsImmutable := by
  refine ⟨fun s t h => ?_, by decide, by decide, by decide⟩
  rcases step_next_cases h with ⟨_, rfl⟩ | ⟨_, hm⟩
  · exact ⟨rfl, fun ha => ha.symm⟩
  · obtain ⟨hc, ha⟩ := hm.cfg_addr
    exact ⟨hc, fun _ => ha⟩

end Sys2Proof.Machine
end

section
/-! PROOFS of the state family, part 2. The block's invariant: it holds at rest, every move keeps it, and under it no
step stops. -/

namespace Sys2Proof.Machine

/-! ### The ranges of the results -/

/-- The scaled raw word is at most the span: `tSpan` or `rhSpan` times a 16-bit word, divided by 65535. -/
theorem scaled_le_span (span : Nat) (raw : Word16) : span * raw.toNat / convDiv ≤ span :=
  Nat.div_le_of_le_mul (by rw [Nat.mul_comm]; exact Nat.mul_le_mul_right _ (Nat.le_of_lt_succ raw.isLt))

/-- A converted temperature lies between -45 and 130 degrees (R130). -/
theorem convT_range (raw : Word16) : -4500 ≤ (convT raw).toInt ∧ (convT raw).toInt ≤ 13000 := by
  have hspan : tSpan * raw.toNat / convDiv ≤ 17500 := scaled_le_span tSpan raw
  unfold convT tOffset
  generalize tSpan * raw.toNat / convDiv = n at hspan
  rw [BitVec.toInt_ofInt_eq_self (by decide) (by omega) (by omega)]
  omega

/-- A converted humidity is at most 100 percent (R131). -/
theorem convRH_le (raw : Word16) : (convRH raw).toNat ≤ 10000 :=
  (Nat.mod_le _ _).trans (scaled_le_span rhSpan raw)

/-- The flag view has no reserved bit (R141). -/
theorem decodeStatus_reserved (raw : Word16) : decodeStatus raw &&& ~~~statusKnownMask = 0 := by
  simp [decodeStatus, BitVec.and_assoc]

/-! ### What fills and empties the response buffer -/

/-- In an empty buffer every cell is at no value. -/
theorem emptyRx_getElem (i : Fin 6) : emptyRx[i] = none := by
  revert i; decide

/-- The first group is missing exactly when one of its cells is at no value. -/
theorem firstGroup_eq_none_iff (buf : Vector (Option Byte) 6) :
    firstGroup buf = none ↔ buf[0] = none ∨ buf[1] = none ∨ buf[2] = none := by
  unfold firstGroup
  cases buf[0] <;> cases buf[1] <;> cases buf[2] <;> simp

/-- The second group is missing exactly when one of its cells is at no value. -/
theorem secondGroup_eq_none_iff (buf : Vector (Option Byte) 6) :
    secondGroup buf = none ↔ buf[3] = none ∨ buf[4] = none ∨ buf[5] = none := by
  unfold secondGroup
  cases buf[3] <;> cases buf[4] <;> cases buf[5] <;> simp

section
variable {s : State}

/-- CHECK of an operation with a response faults where the first group has an empty cell. -/
theorem checkStep_of_no_firstGroup (hop : s.cur.op = .measure ∨ s.cur.op = .status) (hg : firstGroup s.rxbuf = none) :
    checkStep s = .fault .noValueCell := by
  rcases hop with hop | hop <;> simp [checkStep, checkMeasure, checkStatus, hop, hg]

/-- CHECK of a MEASURE with a valid first group faults where the second group has an empty cell. -/
theorem checkStep_of_no_secondGroup {g : Group} (hop : s.cur.op = .measure) (hf : firstGroup s.rxbuf = some g)
    (hv : groupValid g = true) (hg : secondGroup s.rxbuf = none) : checkStep s = .fault .noValueCell := by
  simp [checkStep, checkMeasure, hop, hf, hv, hg]

/-- CHECK of a MEASURE with both groups present goes on. -/
theorem checkStep_runsOn_of_measure {g h : Group} (hop : s.cur.op = .measure) (hg : firstGroup s.rxbuf = some g)
    (hh : secondGroup s.rxbuf = some h) : runsOn (checkStep s) := by
  cases hv : groupValid g <;> cases hw : groupValid h <;> simp [runsOn, checkStep, checkMeasure, hop, hg, hh, hv, hw]

/-- CHECK of a STATUS with its group present goes on. -/
theorem checkStep_runsOn_of_status {g : Group} (hop : s.cur.op = .status) (hg : firstGroup s.rxbuf = some g) :
    runsOn (checkStep s) := by
  cases hv : groupValid g <;> simp [runsOn, checkStep, checkStatus, hop, hg, hv]

end

/-! ### The invariant at rest and under the operations -/

/-- In IDLE the invariant says no more than ADDR selected and RESULT at no value. -/
theorem blockInv_of_idle {s : State} (ha : s.addr = busAddress s.cfg.addrSel) (hp : s.phase = .idle)
    (hr : s.result = none) : BlockInv s where
  addr_selected := ha
  result_in_respond := by simp [hp, hr]
  loaded h := absurd hp h
  rx_empty h := by simp [hp] at h
  reads h := by simp [hp] at h
  rx_filled h := by simp [hp] at h
  result_allowed r h := by simp [hr] at h

theorem blockInv_construct (cfg : Config) : BlockInv (State.construct cfg) := blockInv_of_idle rfl rfl rfl

theorem blockInv_blockReset (s : State) : BlockInv (blockReset s) := blockInv_of_idle rfl rfl rfl

namespace BlockInv
variable {s : State}

/-- Outside RESPOND there is no result (R28). -/
theorem result_none (h : BlockInv s) (hp : s.phase ≠ .respond) : s.result = none :=
  Option.not_isSome_iff_eq_none.mp fun hr => hp (h.result_in_respond.mp hr)

/-- In RESPOND there is a result (R28). -/
theorem result_some (h : BlockInv s) (hp : s.phase = .respond) : ∃ r, s.result = some r :=
  Option.isSome_iff_exists.mp (h.result_in_respond.mpr hp)

theorem tick (h : BlockInv s) : BlockInv (tick s) := { h with }

/-- An accepted request loads the transaction registers (R160). -/
theorem accept (h : BlockInv s) {q : Request} (hq : q.wellFormed = true) : BlockInv (accept q s) where
  addr_selected := h.addr_selected
  result_in_respond := by simp
  loaded _ := ⟨hq, rfl, rfl, rfl⟩
  rx_empty _ := rfl
  reads hc := by simp at hc
  rx_filled hc := by simp at hc
  result_allowed r hr := by simp at hr

/-! An event, an answer drawn and a script used leave the registers alone. -/

theorem record (h : BlockInv s) (e : Event) : BlockInv (record e s) := { h with }
theorem advanceWrite (h : BlockInv s) : BlockInv (advanceWrite s) := { h with }
theorem advanceRead (h : BlockInv s) : BlockInv (advanceRead s) := { h with }
theorem advanceTakes (h : BlockInv s) : BlockInv (advanceTakes s) := { h with }

/-- A result that the operation can return may be offered, as a value or by error entry (R204). -/
theorem offer (h : BlockInv s) (hp : s.phase ≠ .idle) {r : Result} (hr : resultAllowed s.cur.op r) :
    BlockInv { s with result := some r, phase := .respond } where
  addr_selected := h.addr_selected
  result_in_respond := by simp
  loaded _ := h.loaded hp
  rx_empty hc := by simp at hc
  reads hc := by simp at hc
  rx_filled hc := by simp at hc
  result_allowed r' hr' := by cases hr'; exact hr

/-- The phases WRITE, DELAY and READ follow each other with the buffer empty. -/
theorem enter (h : BlockInv s) {p : Phase} (hs : s.phase = .write ∨ s.phase = .delay)
    (hp : p = .delay ∨ p = .read ∧ s.rxlen ≠ .zero) : BlockInv (enter p s) where
  addr_selected := h.addr_selected
  result_in_respond := by
    have hr : s.result = none := h.result_none (by rcases hs with hs | hs <;> simp [hs])
    rcases hp with rfl | ⟨rfl, -⟩ <;> simp [hr]
  loaded _ := h.loaded (by rcases hs with hs | hs <;> simp [hs])
  rx_empty _ := h.rx_empty (hs.imp_right .inl)
  reads hc := by
    rcases hp with rfl | ⟨-, hn⟩
    · simp at hc
    · exact hn
  rx_filled hc := by rcases hp with rfl | ⟨rfl, -⟩ <;> cases hc
  result_allowed := h.result_allowed

/-- CHECK is entered with the cells below RXLEN filled (R163). -/
theorem enter_check (h : BlockInv s) (hp : s.phase = .read) (b : Vector Byte 6) :
    BlockInv (Machine.enter .check (storeRx (rxBytes s.rxlen) b s)) where
  addr_selected := h.addr_selected
  result_in_respond := by
    have hr : s.result = none := h.result_none (by simp [hp])
    simp [hr]
  loaded _ := h.loaded (by simp [hp])
  rx_empty hc := by simp at hc
  reads _ := h.reads (.inl hp)
  rx_filled _ i hi := by
    have hb : (fillRx (rxBytes s.rxlen) b s.rxbuf)[i.val] = some b[i.val] :=
      (fillRx_getElem _ _ _ _ i.isLt).trans (if_pos hi)
    exact Option.isSome_iff_exists.mpr ⟨_, hb⟩
  result_allowed := h.result_allowed

/-- A response expected tells the operation: six bytes for MEASURE, three for STATUS (R167). -/
theorem op_of_length (h : BlockInv s) (hp : s.phase ≠ .idle) :
    (s.rxlen = .zero ∧ (s.cur.op = .reset ∨ s.cur.op = .clearStatus)) ∨
    (s.rxlen = .six ∧ s.cur.op = .measure) ∨ (s.rxlen = .three ∧ s.cur.op = .status) := by
  obtain ⟨_, _, _, hlen⟩ := h.loaded hp
  rw [hlen]
  cases s.cur.op <;> simp [lenOf]

end BlockInv

/-- EVERY MOVE KEEPS the block's invariant. -/
theorem PhaseMove.keeps_blockInv {s t : State} (hm : PhaseMove s t) (h : BlockInv s) : BlockInv t := by
  cases hm with
  | wait => exact h
  | accept q _ hq => exact BlockInv.accept (s := consume s) { h with } hq
  | encode c hp => exact blockInv_of_idle h.addr_selected hp (h.result_none (by simp [hp]))
  | refuse e hp => exact blockInv_of_idle h.addr_selected hp (h.result_none (by simp [hp]))
  | written hp => exact (h.advanceWrite.record _).enter (.inl hp) (.inl rfl)
  | writeFailed e hp => exact (h.advanceWrite.record _).offer (by simp [hp]) trivial
  | waited hp hn => exact (h.record _).enter (.inr hp) (.inr ⟨rfl, hn⟩)
  | finished hp hn =>
    refine (h.record _).offer (by simp [hp]) ?_
    simpa [hn, resultAllowed] using h.op_of_length (by simp [hp])
  | filled b hp => exact (h.advanceRead.record _).enter_check hp b
  | readFailed e hp => exact (h.advanceRead.record _).offer (by simp [hp]) trivial
  | measured g g' hp hop =>
    obtain ⟨hlo, hhi⟩ := convT_range (groupWord g)
    exact h.offer (by simp [hp]) ⟨hop, hlo, hhi, convRH_le _⟩
  | flagged g hp hop => exact h.offer (by simp [hp]) ⟨hop, decodeStatus_reserved _⟩
  | crcFailed hp hop => exact h.offer (by simp [hp]) hop
  | taken r hp => exact blockInv_of_idle h.addr_selected rfl rfl
  | offered r hp => exact h.advanceTakes

/-- Settles O43: block reset restores the invariant, and every move of the sequencer keeps it. -/
theorem stepKeepsTheInvariant : Obligations.StepKeepsTheInvariant := by
  intro s t h hs
  rcases step_next_cases hs with ⟨_, rfl⟩ | ⟨_, hm⟩
  · exact blockInv_blockReset _
  · exact hm.keeps_blockInv h.tick

/-- The trace's invariant holds of an empty trace before any transaction. -/
theorem traceInv_construct (cfg : Config) : TraceInv (State.construct cfg) where
  events_ok e he := by cases he
  in_order past e later h := by simp [State.construct] at h
  delay_after_write h := by cases h
  read_after_delay h := by cases h

/-- Settles O42: after reset the block is at rest and its trace is empty. -/
theorem invariantHoldsAtReset : Obligations.InvariantHoldsAtReset :=
  ⟨fun cfg => ⟨blockInv_construct cfg, traceInv_construct cfg⟩, blockInv_construct _, traceInv_construct _⟩

/-- Settles O41, by the values the construction gives. -/
theorem resetLeavesTheStatedValues : Obligations.ResetLeavesTheStatedValues :=
  ⟨fun _ => ⟨rfl, rfl, emptyRx_getElem, rfl, rfl⟩, fun _ => ⟨rfl, rfl⟩⟩

/-! ### No step stops -/

/-- With the three cells of the first group filled, the group is there. -/
theorem exists_firstGroup {buf : Vector (Option Byte) 6} (h : ∀ i : Fin 6, i.val < 3 → buf[i].isSome = true) :
    ∃ g, firstGroup buf = some g := by
  rw [← Option.ne_none_iff_exists', Ne, firstGroup_eq_none_iff]
  have h0 := h 0 (by decide)
  have h1 := h 1 (by decide)
  have h2 := h 2 (by decide)
  rintro (e | e | e) <;> simp_all

/-- With all six cells filled, the second group is there. -/
theorem exists_secondGroup {buf : Vector (Option Byte) 6} (h : ∀ i : Fin 6, i.val < 6 → buf[i].isSome = true) :
    ∃ g, secondGroup buf = some g := by
  rw [← Option.ne_none_iff_exists', Ne, secondGroup_eq_none_iff]
  have h3 := h 3 (by decide)
  have h4 := h 4 (by decide)
  have h5 := h 5 (by decide)
  rintro (e | e | e) <;> simp_all

/-- Under the invariant CHECK finds the cells of its response filled. -/
theorem BlockInv.checkStep_runsOn {s : State} (h : BlockInv s) (hp : s.phase = .check) : runsOn (checkStep s) := by
  have hfilled := h.rx_filled hp
  rcases h.op_of_length (by simp [hp]) with ⟨hn, _⟩ | ⟨hn, hop⟩ | ⟨hn, hop⟩ <;> rw [hn] at hfilled
  · exact absurd hn (h.reads (.inr hp))
  · obtain ⟨g, hg⟩ := exists_firstGroup fun i hi => hfilled i (hi.trans (by decide))
    obtain ⟨g', hg'⟩ := exists_secondGroup hfilled
    exact checkStep_runsOn_of_measure hop hg hg'
  · obtain ⟨g, hg⟩ := exists_firstGroup hfilled
    exact checkStep_runsOn_of_status hop hg

/-- Under the invariant the step of the phase answers a next state. -/
theorem BlockInv.phaseStep_runsOn {s : State} (h : BlockInv s) : runsOn (phaseStep s) := by
  cases hp : s.phase with
  | idle =>
    rw [phaseStep_of_idle hp]
    rcases idleStep_cases s with ⟨_, e⟩ | ⟨_, _, _, _, _, _, _, e⟩ | ⟨_, _, _, _, _, _, _, e⟩ | ⟨_, _, _, _, _, e⟩ <;>
      exact ⟨_, e⟩
  | write =>
    rw [phaseStep_of_write hp]
    rcases writeStep_cases s with ⟨_, e⟩ | ⟨_, _, e⟩ <;> exact ⟨_, e⟩
  | delay =>
    rw [phaseStep_of_delay hp]
    rcases delayStep_cases s with ⟨_, e⟩ | ⟨_, e⟩ <;> exact ⟨_, e⟩
  | read =>
    rw [phaseStep_of_read hp]
    rcases readStep_cases s with ⟨_, _, e⟩ | ⟨_, _, e⟩ <;> exact ⟨_, e⟩
  | check => exact phaseStep_of_check hp ▸ h.checkStep_runsOn hp
  | respond =>
    rw [phaseStep_of_respond hp]
    obtain ⟨r, hr⟩ := h.result_some hp
    rcases respondStep_cases s with ⟨_, _, _, e⟩ | ⟨_, _, _, e⟩ | ⟨hn, _⟩
    · exact ⟨_, e⟩
    · exact ⟨_, e⟩
    · simp [hr] at hn

/-- Settles O45: CHECK finds its cells filled and RESPOND its result there; the other phases always go on. -/
theorem noStepStopsUnderTheInvariant : Obligations.NoStepStopsUnderTheInvariant := by
  intro s h
  rcases step_cases s with ⟨_, e⟩ | ⟨_, e⟩
  · exact ⟨_, e⟩
  · exact e ▸ h.tick.phaseStep_runsOn

/-- Settles O38: each group's missing cell leaves the group missing, and CHECK faults on a missing group that it reads. -/
theorem checkFaultsOnAnEmptyCell : Obligations.CheckFaultsOnAnEmptyCell := by
  constructor
  · intro s hp hr hop hcell
    rw [step_of_no_reset hr, phaseStep_of_check (s := tick s) hp]
    exact checkStep_of_no_firstGroup hop ((firstGroup_eq_none_iff _).mpr hcell)
  · intro s b0 b1 b2 hp hr hop h0 h1 h2 hcrc hcell
    rw [step_of_no_reset hr, phaseStep_of_check (s := tick s) hp]
    have hfirst : firstGroup s.rxbuf = some ⟨b0, b1, b2⟩ := by simp [firstGroup, h0, h1, h2]
    have hvalid : groupValid ⟨b0, b1, b2⟩ = true := by simp [groupValid, hcrc]
    exact checkStep_of_no_secondGroup hop hfirst hvalid ((secondGroup_eq_none_iff _).mpr hcell)

/-! ### IDLE with nothing presented, and the frame of the instructions -/

/-- Settles O32: nothing at the port leaves IDLE with the one sample used. -/
theorem idleWaitsForAWord : Obligations.IdleWaitsForAWord := by
  intro s hp hr hport
  rw [step_of_no_reset hr, phaseStep_of_idle (s := tick s) hp, idleStep_of_empty (s := tick s) hport]
  rfl

/-- What no instruction writes: the construction inputs, ADDR, the records of the run and the environment. -/
def sameOutside (s t : State) : Prop :=
  t.cfg = s.cfg ∧ t.addr = s.addr ∧ t.trace = s.trace ∧ t.refusals = s.refusals ∧ t.taken = s.taken ∧
    t.hostPort = s.hostPort ∧ t.hostTakes = s.hostTakes ∧ t.resetLine = s.resetLine ∧ t.writeAnswers = s.writeAnswers ∧
    t.readAnswers = s.readAnswers ∧ t.writesDrawn = s.writesDrawn ∧ t.readsDrawn = s.readsDrawn

theorem sameOutside_encodeInto (c : Command) (s : State) : sameOutside s (encodeInto c s) := by simp [sameOutside]

/-- A request, accepted or waiting, writes nothing outside the transaction registers. -/
theorem sameOutside_request (q : Request) (s : State) : sameOutside s (request q s) := by
  by_cases hp : s.phase = .idle
  · simp [request_of_idle q hp, sameOutside]
  · simp [request_of_busy q hp, sameOutside]

/-- Settles O24: every instruction is a request or the encoder on a command. -/
theorem instructionsChangeOnlyTheirRegisters : Obligations.InstructionsChangeOnlyTheirRegisters := by
  intro i s t h
  constructor
  · rcases request_or_command i with ⟨q, hq⟩ | ⟨c, hc⟩
    · rw [exec_of_request hq] at h
      cases h
      exact sameOutside_request q s
    · rw [exec_of_command hc] at h
      cases h
      exact sameOutside_encodeInto c s
  · intro c hc
    rw [exec_of_command hc] at h
    cases h
    exact ⟨rfl, rfl, rfl, rfl, rfl, rfl⟩

end Sys2Proof.Machine
end

section
/-! PROOFS of the state family, part 3. Noninterference (R21): what a step adds to the run's records and what its next
state shows of the future depend only on the future view of the state before. -/

namespace Sys2Proof.Machine

/-! ### The three views -/

/-- The view in the middle of a transaction: the run's records blanked. -/
def bare (s : State) : State := { s with trace := [], refusals := [], taken := [] }

/-- The view in RESPOND: the transaction registers blanked too, RESULT kept. -/
def blankRegs (s : State) : State :=
  { bare s with cur := ⟨.measure, .disabled, .high⟩, txbuf := ⟨0, 0⟩, waitMs := 0, rxlen := .zero, rxbuf := emptyRx }

/-- The view in IDLE: RESULT blanked as well. -/
def blankAll (s : State) : State := { blankRegs s with result := none }

section
variable {s : State}

theorem futureView_of_idle (h : s.phase = .idle) : futureView s = blankAll s := by
  simp [futureView, h, blankAll, blankRegs, bare]

theorem futureView_of_respond (h : s.phase = .respond) : futureView s = blankRegs s := by
  simp [futureView, h, blankRegs, bare]

theorem futureView_of_busy (hi : s.phase ≠ .idle) (hr : s.phase ≠ .respond) : futureView s = bare s := by
  cases h : s.phase <;> simp_all [futureView, bare]

end

/-- No view blanks PHASE. -/
theorem futureView_phase (s : State) : (futureView s).phase = s.phase := by
  cases h : s.phase <;> simp [futureView, h]

/-- No view blanks the block-reset input. -/
theorem futureView_resetLine (s : State) : (futureView s).resetLine = s.resetLine := by
  cases h : s.phase <;> simp [futureView, h]

/-- The blankest view is a function of every view. -/
theorem blankAll_futureView (s : State) : blankAll (futureView s) = blankAll s := by
  cases h : s.phase <;> simp [futureView, h, blankAll, blankRegs, bare]

/-! ### Steps that agree -/

/-- From `s` to `s'` the run's records grow by the events, the results taken and the refusal marks given. -/
def recordsGrow (es : List Event) (rs : List Result) (ms : List DecodeError) (s s' : State) : Prop :=
  s'.trace = s.trace ++ es ∧ s'.taken = s.taken ++ rs ∧ s'.refusals = s.refusals ++ ms

/-- The outcomes `o` from `s` and `p` from `t` agree: the same fault, or next states with the same future and the same
additions to the records. -/
def Agree (s t : State) (o p : Outcome) : Prop :=
  (∃ s' t' es rs ms, o = .next s' ∧ p = .next t' ∧ futureView s' = futureView t' ∧
    recordsGrow es rs ms s s' ∧ recordsGrow es rs ms t t') ∨
  ∃ f, o = .fault f ∧ p = .fault f

section
variable {s t s' t' : State}

/-- Two next states agree if they have the same future and the records grow by the same. -/
theorem Agree.next (es : List Event) (rs : List Result) (ms : List DecodeError) (hv : futureView s' = futureView t')
    (hs : recordsGrow es rs ms s s' := by simp [recordsGrow]) (ht : recordsGrow es rs ms t t' := by simp [recordsGrow]) :
    Agree s t (.next s') (.next t') :=
  .inl ⟨s', t', es, rs, ms, rfl, rfl, hv, hs, ht⟩

/-- Stopping for the same reason is agreement. -/
theorem Agree.fault (f : Fault) : Agree s t (.fault f) (.fault f) := .inr ⟨f, rfl, rfl⟩

end

/-! ### One equation per branch of the phases' steps -/

section
variable {s : State}

theorem writeStep_of_ok (h : writeAnswer s = .ok) :
    writeStep s = .next (enter .delay (record (.write s.addr s.txbuf .ok) (advanceWrite s))) := by
  simp [writeStep, h]

theorem writeStep_of_err {e : TransportError} (h : writeAnswer s = .err e) :
    writeStep s = .next (raiseError (.bus e) (record (.write s.addr s.txbuf (.err e)) (advanceWrite s))) := by
  simp [writeStep, h]

theorem delayStep_of_zero (h : s.rxlen = .zero) : delayStep s = .next (respond .unit (record (.delay s.waitMs) s)) := by
  simp [delayStep, h, rxBytes]

theorem delayStep_of_ne_zero (h : s.rxlen ≠ .zero) : delayStep s = .next (enter .read (record (.delay s.waitMs) s)) := by
  cases hn : s.rxlen <;> simp_all [delayStep, rxBytes]

theorem readStep_of_ok {b : Vector Byte 6} (h : readAnswer s = .ok b) :
    readStep s = .next (enter .check (storeRx (rxBytes s.rxlen) b
      (record (.read s.addr (rxBytes s.rxlen) (.ok (b.toList.take (rxBytes s.rxlen)))) (advanceRead s)))) := by
  simp [readStep, h, readReply]

theorem readStep_of_err {e : TransportError} (h : readAnswer s = .err e) :
    readStep s = .next
      (raiseError (.bus e) (record (.read s.addr (rxBytes s.rxlen) (.err e)) (advanceRead s))) := by
  simp [readStep, h, readReply]

theorem respondStep_of_none (h : s.result = none) : respondStep s = .fault .respondWithoutResult := by
  simp [respondStep, h]

theorem respondStep_of_taken {r : Result} (h : s.result = some r) (ht : hostTakesNow s = true) :
    respondStep s = .next (release r (advanceTakes s)) := by
  simp [respondStep, h, ht]

theorem respondStep_of_offered {r : Result} (h : s.result = some r) (ht : hostTakesNow s = false) :
    respondStep s = .next (advanceTakes s) := by
  simp [respondStep, h, ht]

theorem idleStep_of_decoded {w : HostWord} {rest : List HostWord} {i : Instr} (hw : s.hostPort = w :: rest)
    (hd : decode s.cfg.cmdOpcode w = .ok i) : idleStep s = exec i (consume s) := by
  simp [idleStep, hw, hd]

theorem idleStep_of_refused {w : HostWord} {rest : List HostWord} {e : DecodeError} (hw : s.hostPort = w :: rest)
    (hd : decode s.cfg.cmdOpcode w = .error e) : idleStep s = .next (markRefused e (consume s)) := by
  simp [idleStep, hw, hd]

end

/-- CHECK reads CUR and RXBUF alone: two states with the same offer the same value, raise Crc both, or fault alike. -/
theorem checkStep_of_same_response {s t : State} (hc : t.cur = s.cur) (hb : t.rxbuf = s.rxbuf) :
    (∃ v, checkStep s = .next (respond v s) ∧ checkStep t = .next (respond v t)) ∨
    (checkStep s = .next (raiseError .crc s) ∧ checkStep t = .next (raiseError .crc t)) ∨
    ∃ f, checkStep s = .fault f ∧ checkStep t = .fault f := by
  unfold checkStep checkMeasure checkStatus
  rw [hc, hb]
  cases s.cur.op with
  | reset => exact .inr (.inr ⟨_, rfl, rfl⟩)
  | clearStatus => exact .inr (.inr ⟨_, rfl, rfl⟩)
  | measure =>
    cases firstGroup s.rxbuf with
    | none => exact .inr (.inr ⟨_, rfl, rfl⟩)
    | some g =>
      cases hv : groupValid g with
      | false => exact .inr (.inl (by simp [hv]))
      | true =>
        cases secondGroup s.rxbuf with
        | none => exact .inr (.inr ⟨.noValueCell, by simp [hv]⟩)
        | some g' =>
          cases hw : groupValid g' with
          | false => exact .inr (.inl (by simp [hv, hw]))
          | true => exact .inl ⟨.meas (convT (groupWord g)) (convRH (groupWord g')), by simp [hv, hw]⟩
  | status =>
    cases firstGroup s.rxbuf with
    | none => exact .inr (.inr ⟨_, rfl, rfl⟩)
    | some g =>
      cases hv : groupValid g with
      | false => exact .inr (.inl (by simp [hv]))
      | true => exact .inl ⟨.status (decodeStatus (groupWord g)), by simp [hv]⟩

/-! ### The phases' steps on states with the same view

The named operations commute with the views, so the future views of the next states are one function of the views before. -/

section
variable {s t : State}

theorem agree_writeStep (h : bare s = bare t) : Agree s t (writeStep s) (writeStep t) := by
  have haddr : s.addr = t.addr := (congrArg State.addr h :)
  have htx : s.txbuf = t.txbuf := (congrArg State.txbuf h :)
  have hans : writeAnswer s = writeAnswer t := (congrArg writeAnswer h :)
  cases ha : writeAnswer s with
  | ok =>
    rw [writeStep_of_ok ha, writeStep_of_ok (hans ▸ ha), haddr, htx]
    exact .next [.write t.addr t.txbuf .ok] [] [] (congrArg (fun u => enter .delay (advanceWrite u)) h :)
  | err e =>
    rw [writeStep_of_err ha, writeStep_of_err (hans ▸ ha), haddr, htx]
    exact .next [.write t.addr t.txbuf (.err e)] [] [] (congrArg (fun u => raiseError (.bus e) (advanceWrite (blankRegs u))) h :)

theorem agree_delayStep (h : bare s = bare t) : Agree s t (delayStep s) (delayStep t) := by
  have hwait : s.waitMs = t.waitMs := (congrArg State.waitMs h :)
  have hlen : s.rxlen = t.rxlen := (congrArg State.rxlen h :)
  by_cases hn : s.rxlen = .zero
  · rw [delayStep_of_zero hn, delayStep_of_zero (hlen ▸ hn), hwait]
    exact .next [.delay t.waitMs] [] [] (congrArg (fun u => respond .unit (blankRegs u)) h :)
  · rw [delayStep_of_ne_zero hn, delayStep_of_ne_zero (hlen ▸ hn), hwait]
    exact .next [.delay t.waitMs] [] [] (congrArg (enter .read) h :)

theorem agree_readStep (h : bare s = bare t) : Agree s t (readStep s) (readStep t) := by
  have haddr : s.addr = t.addr := (congrArg State.addr h :)
  have hlen : s.rxlen = t.rxlen := (congrArg State.rxlen h :)
  have hans : readAnswer s = readAnswer t := (congrArg readAnswer h :)
  cases ha : readAnswer s with
  | ok b =>
    rw [readStep_of_ok ha, readStep_of_ok (hans ▸ ha), haddr, hlen]
    exact .next [.read t.addr (rxBytes t.rxlen) (.ok (b.toList.take (rxBytes t.rxlen)))] [] []
      (congrArg (fun u => enter .check (storeRx (rxBytes t.rxlen) b (advanceRead u))) h :)
  | err e =>
    rw [readStep_of_err ha, readStep_of_err (hans ▸ ha), haddr, hlen]
    exact .next [.read t.addr (rxBytes t.rxlen) (.err e)] [] []
      (congrArg (fun u => raiseError (.bus e) (advanceRead (blankRegs u))) h :)

theorem agree_checkStep (h : bare s = bare t) : Agree s t (checkStep s) (checkStep t) := by
  have hcur : t.cur = s.cur := (congrArg State.cur h.symm :)
  have hbuf : t.rxbuf = s.rxbuf := (congrArg State.rxbuf h.symm :)
  rcases checkStep_of_same_response hcur hbuf with ⟨v, es, et⟩ | ⟨es, et⟩ | ⟨f, es, et⟩ <;> rw [es, et]
  · exact .next [] [] [] (congrArg (fun u => respond v (blankRegs u)) h :)
  · exact .next [] [] [] (congrArg (fun u => raiseError .crc (blankRegs u)) h :)
  · exact .fault f

theorem agree_respondStep (hs : s.phase = .respond) (ht : t.phase = .respond) (h : blankRegs s = blankRegs t) :
    Agree s t (respondStep s) (respondStep t) := by
  have hres : s.result = t.result := (congrArg State.result h :)
  have htakes : hostTakesNow s = hostTakesNow t := (congrArg hostTakesNow h :)
  cases hr : s.result with
  | none =>
    rw [respondStep_of_none hr, respondStep_of_none (hres ▸ hr)]
    exact .fault _
  | some r =>
    cases hk : hostTakesNow s with
    | true =>
      rw [respondStep_of_taken hr hk, respondStep_of_taken (hres ▸ hr) (htakes ▸ hk)]
      exact .next [] [r] [] (congrArg (fun u => enter .idle (advanceTakes (blankAll u))) h :)
    | false =>
      rw [respondStep_of_offered hr hk, respondStep_of_offered (hres ▸ hr) (htakes ▸ hk)]
      refine .next [] [] [] ?_
      rw [futureView_of_respond (s := advanceTakes s) hs, futureView_of_respond (s := advanceTakes t) ht]
      exact (congrArg advanceTakes h :)

/-- In IDLE an instruction overwrites every register of the transaction that it does not leave blanked. -/
theorem agree_exec (hs : s.phase = .idle) (ht : t.phase = .idle) (h : blankAll s = blankAll t) (i : Instr) :
    Agree s t (exec i (consume s)) (exec i (consume t)) := by
  rcases request_or_command i with ⟨q, hq⟩ | ⟨c, hc⟩
  · rw [exec_of_request hq, exec_of_request hq, request_of_idle q (s := consume s) hs, request_of_idle q (s := consume t) ht]
    exact .next [] [] [] (congrArg (fun u => accept q (consume u)) h :)
  · rw [exec_of_command hc, exec_of_command hc]
    refine .next [] [] [] ?_
    rw [futureView_of_idle (by simpa using hs), futureView_of_idle (by simpa using ht)]
    exact (congrArg consume h :)

theorem agree_idleStep (hs : s.phase = .idle) (ht : t.phase = .idle) (h : blankAll s = blankAll t) :
    Agree s t (idleStep s) (idleStep t) := by
  have hport : s.hostPort = t.hostPort := (congrArg State.hostPort h :)
  have hcfg : s.cfg = t.cfg := (congrArg State.cfg h :)
  cases hp : s.hostPort with
  | nil =>
    rw [idleStep_of_empty hp, idleStep_of_empty (hport ▸ hp)]
    exact .next [] [] [] (by rwa [futureView_of_idle hs, futureView_of_idle ht])
  | cons w rest =>
    cases hd : decode s.cfg.cmdOpcode w with
    | ok i =>
      rw [idleStep_of_decoded hp hd, idleStep_of_decoded (hport ▸ hp) (hcfg ▸ hd)]
      exact agree_exec hs ht h i
    | error e =>
      rw [idleStep_of_refused hp hd, idleStep_of_refused (hport ▸ hp) (hcfg ▸ hd)]
      refine .next [] [] [e] ?_
      rw [futureView_of_idle (by simpa using hs), futureView_of_idle (by simpa using ht)]
      exact (congrArg consume h :)

end

/-! ### The whole step -/

/-- Using a sample of the block-reset input keeps two views the same. -/
theorem futureView_tick (s : State) : futureView (tick s) = tick (futureView s) := by
  cases h : s.phase <;> simp [futureView, h, tick]

theorem agree_blockReset {s t : State} (h : futureView s = futureView t) :
    Agree s t (.next (blockReset s)) (.next (blockReset t)) := by
  have hall : blankAll s = blankAll t := by rw [← blankAll_futureView s, h, blankAll_futureView]
  exact .next [] [] [] (congrArg blockReset hall :)

/-- States with the same future take agreeing steps of the phase. -/
theorem agree_phaseStep {s t : State} (h : futureView s = futureView t) : Agree s t (phaseStep s) (phaseStep t) := by
  have hphase : s.phase = t.phase := by
    rw [← futureView_phase s, h, futureView_phase]
  have hbusy : s.phase ≠ .idle → s.phase ≠ .respond → bare s = bare t := fun hi hr => by
    rwa [futureView_of_busy hi hr, futureView_of_busy (hphase ▸ hi) (hphase ▸ hr)] at h
  cases hp : s.phase with
  | idle =>
    have ht : t.phase = .idle := hphase ▸ hp
    rw [futureView_of_idle hp, futureView_of_idle ht] at h
    rw [phaseStep_of_idle hp, phaseStep_of_idle ht]
    exact agree_idleStep hp ht h
  | respond =>
    have ht : t.phase = .respond := hphase ▸ hp
    rw [futureView_of_respond hp, futureView_of_respond ht] at h
    rw [phaseStep_of_respond hp, phaseStep_of_respond ht]
    exact agree_respondStep hp ht h
  | write =>
    rw [phaseStep_of_write hp, phaseStep_of_write (hphase ▸ hp)]
    exact agree_writeStep (hbusy (by simp [hp]) (by simp [hp]))
  | delay =>
    rw [phaseStep_of_delay hp, phaseStep_of_delay (hphase ▸ hp)]
    exact agree_delayStep (hbusy (by simp [hp]) (by simp [hp]))
  | read =>
    rw [phaseStep_of_read hp, phaseStep_of_read (hphase ▸ hp)]
    exact agree_readStep (hbusy (by simp [hp]) (by simp [hp]))
  | check =>
    rw [phaseStep_of_check hp, phaseStep_of_check (hphase ▸ hp)]
    exact agree_checkStep (hbusy (by simp [hp]) (by simp [hp]))

/-- States with the same future take agreeing steps. -/
theorem agree_step {s t : State} (h : futureView s = futureView t) : Agree s t (step s) (step t) := by
  have hline : s.resetLine = t.resetLine := by
    rw [← futureView_resetLine s, h, futureView_resetLine]
  have htick : futureView (tick s) = futureView (tick t) := by rw [futureView_tick, h, futureView_tick]
  by_cases hr : s.resetLine.head? = some true
  · rw [step_of_reset hr, step_of_reset (hline ▸ hr)]
    exact agree_blockReset htick
  · rw [step_of_no_reset hr, step_of_no_reset (hline ▸ hr)]
    exact agree_phaseStep htick

/-- Settles O56: the agreement of the steps, spelled out. -/
theorem futureIgnoresEarlierTransactions : Obligations.FutureIgnoresEarlierTransactions := by
  intro s t h
  rcases agree_step h with ⟨s', t', es, rs, ms, hs, ht, hv, ⟨hse, hsr, hsm⟩, hte, htr, htm⟩ | hfault
  · exact .inl ⟨s', t', es, rs, ms, hs, ht, hv, hse, hte, hsr, htr, hsm, htm⟩
  · exact .inr hfault

end Sys2Proof.Machine
end

section
/-! PROOFS of the memory family, part 1. The bus: the frame of a command word, the event a step issues, and the order of the
events in the trace. -/

namespace Sys2Proof.Machine

/-! ### The frame of a command word -/

theorem hiByte_toNat (w : Word16) : (hiByte w).toNat = w.toNat / 256 := by
  have hw : w.toNat < 65536 := w.isLt
  simp only [hiByte, BitVec.extractLsb'_toNat, Nat.shiftRight_eq_div_pow]
  omega

theorem loByte_toNat (w : Word16) : (loByte w).toNat = w.toNat % 256 := by
  simp [loByte, BitVec.extractLsb'_toNat]

/-- Settles O6: the two bytes of the frame are the quotient and the remainder of the word by 256. -/
theorem commandFrameIsBigEndian : Obligations.CommandFrameIsBigEndian :=
  fun w => ⟨hiByte_toNat w, loByte_toNat w, rfl⟩

/-! ### The event a step issues -/

/-- A move issues no event, or one event in a phase that uses the bus or the delay. -/
theorem PhaseMove.trace_same_or_one_event {s t : State} (h : PhaseMove s t) :
    t.trace = s.trace ∨
    ((s.phase = .write ∨ s.phase = .delay ∨ s.phase = .read) ∧ ∃ e, t.trace = s.trace ++ [e]) := by
  cases h with
  | written hp | writeFailed _ hp => exact .inr ⟨.inl hp, _, rfl⟩
  | waited hp | finished hp => exact .inr ⟨.inr (.inl hp), _, rfl⟩
  | filled _ hp | readFailed _ hp => exact .inr ⟨.inr (.inr hp), _, rfl⟩
  | _ => exact .inl rfl

/-- Settles O48: block reset keeps the trace, and a move adds at most one event, in WRITE, DELAY or READ. -/
theorem traceOnlyGrowsAtItsEnd : Obligations.TraceOnlyGrowsAtItsEnd := by
  intro s t h
  rcases step_next_cases h with ⟨_, rfl⟩ | ⟨hr, hm⟩
  · exact ⟨[], by simp⟩
  · rcases hm.trace_same_or_one_event with he | ⟨hp, e, he⟩
    · exact ⟨[], by simpa using he⟩
    · refine ⟨[e], he, le_rfl, fun hq => ?_⟩
      rcases hp with hp | hp | hp <;> simp_all

/-! The transport's next answer does not depend on the block-reset input. -/

theorem writeAnswer_tick (s : State) : writeAnswer (tick s) = writeAnswer s := rfl
theorem readAnswer_tick (s : State) : readAnswer (tick s) = readAnswer s := rfl

/-- A step in WRITE records the transport's answer, whatever it is (R44). -/
theorem step_records_writeAnswer {s : State} (hp : s.phase = .write) (hr : s.resetLine.head? ≠ some true) :
    ∃ t, step s = .next t ∧ t.trace = s.trace ++ [.write s.addr s.txbuf (writeAnswer s)] := by
  rw [step_of_no_reset hr, phaseStep_of_write (s := tick s) hp, ← writeAnswer_tick]
  rcases writeStep_cases (tick s) with ⟨ha, e⟩ | ⟨d, ha, e⟩ <;> rw [ha] <;> exact ⟨_, e, rfl⟩

/-- A step in READ records the transport's answer, whatever it is (R45). -/
theorem step_records_readAnswer {s : State} (hp : s.phase = .read) (hr : s.resetLine.head? ≠ some true) :
    ∃ t, step s = .next t ∧
      t.trace = s.trace ++ [.read s.addr (rxBytes s.rxlen) (readReply (rxBytes s.rxlen) (readAnswer s))] := by
  rw [step_of_no_reset hr, phaseStep_of_read (s := tick s) hp, ← readAnswer_tick]
  rcases readStep_cases (tick s) with ⟨b, ha, e⟩ | ⟨d, ha, e⟩ <;> rw [ha] <;> exact ⟨_, e, rfl⟩

/-- Settles O58: an answer put first in the script is the one drawn, and the step records it. -/
theorem everyTransportAnswerIsAdmitted : Obligations.EveryTransportAnswerIsAdmitted :=
  ⟨fun s a hp hr => step_records_readAnswer (s := { s with readAnswers := a :: s.readAnswers }) hp hr,
    fun s a hp hr => step_records_writeAnswer (s := { s with writeAnswers := a :: s.writeAnswers }) hp hr⟩

/-! ### Legal traces -/

/-- A legal trace of the block at `addr`: the two clauses of `TraceInv` that do not speak of PHASE. -/
structure TraceLegal (cfg : Config) (addr : BusAddr) (trace : List Event) : Prop where
  events_ok : ∀ e ∈ trace, eventOk cfg addr e
  in_order : ∀ past e later, trace = past ++ e :: later → mayFollow cfg past e

/-- A legal event that may follow a legal trace extends it to a legal trace. -/
theorem TraceLegal.append {cfg : Config} {addr : BusAddr} {trace : List Event} {e : Event} (h : TraceLegal cfg addr trace)
    (hok : eventOk cfg addr e) (hfollow : mayFollow cfg trace e) : TraceLegal cfg addr (trace ++ [e]) where
  events_ok := by
    intro e' he'
    rcases List.mem_append.mp he' with he' | he'
    · exact h.events_ok e' he'
    · rwa [List.mem_singleton.mp he']
  in_order := by
    intro past e' later heq
    rcases List.eq_nil_or_concat later with rfl | ⟨later', last, rfl⟩
    · obtain ⟨rfl, hlast⟩ := List.append_inj' heq rfl
      cases hlast
      exact hfollow
    · have hsplit : trace = past ++ e' :: later' :=
        (List.append_inj' (heq.trans (by simp : _ = (past ++ e' :: later') ++ [last])) rfl).1
      exact h.in_order past e' later' hsplit

theorem TraceInv.legal {s : State} (h : TraceInv s) : TraceLegal s.cfg s.addr s.trace := ⟨h.events_ok, h.in_order⟩

/-- Outside DELAY and READ the trace's invariant says no more than that the trace is legal. -/
theorem traceInv_of_legal {s : State} (h : TraceLegal s.cfg s.addr s.trace) (hd : s.phase ≠ .delay) (hr : s.phase ≠ .read) :
    TraceInv s :=
  ⟨h.events_ok, h.in_order, fun hp => absurd hp hd, fun hp => absurd hp hr⟩

/-! ### The event of each phase extends a legal trace -/

/-- Every wait is one of the four listed (R5, R167). -/
theorem waitOf_listed (q : Request) : waitOf q = 1 ∨ waitOf q = 4 ∨ waitOf q = 6 ∨ waitOf q = 15 := by
  obtain ⟨op, cs, rep⟩ := q
  cases op with
  | measure => cases rep <;> simp [waitOf, waitFloorMs, repWaitMs]
  | reset | status | clearStatus => exact .inl rfl

section
variable {s : State}

/-- The write of an accepted request's frame (R64, R161, R168). -/
theorem TraceInv.legal_write (ht : TraceInv s) (hb : BlockInv s) (hp : s.phase = .write) (ans : WriteAnswer) :
    TraceLegal s.cfg s.addr (s.trace ++ [.write s.addr s.txbuf ans]) := by
  obtain ⟨hwf, htx, _, _⟩ := hb.loaded (by simp [hp])
  exact ht.legal.append ⟨rfl, _, s.cur, hwf, htx, rfl⟩ trivial

/-- The delay, right after that write (R162, R167). -/
theorem TraceInv.legal_delay (ht : TraceInv s) (hb : BlockInv s) (hp : s.phase = .delay) :
    TraceLegal s.cfg s.addr (s.trace ++ [.delay s.waitMs]) := by
  obtain ⟨hwf, htx, hwait, _⟩ := hb.loaded (by simp [hp])
  obtain ⟨before, hpast⟩ := ht.delay_after_write hp
  refine ht.legal.append ?_ ⟨s.cur, s.addr, before, hwf, hwait, htx ▸ hpast⟩
  simpa [eventOk, hwait] using waitOf_listed s.cur

/-- A response expected has six or three bytes (R5, R27). -/
theorem rxBytes_of_ne_zero {n : RxLen} (hn : n ≠ .zero) : rxBytes n = 6 ∨ rxBytes n = 3 := by
  cases n with
  | zero => exact absurd rfl hn
  | three => exact .inr rfl
  | six => exact .inl rfl

/-- A read of a response expected is legal, a successful one with all its bytes (R41, R45). -/
theorem eventOk_read (cfg : Config) (addr : BusAddr) {n : RxLen} (hn : n ≠ .zero) (ans : ReadAnswer) :
    eventOk cfg addr (.read addr (rxBytes n) (readReply (rxBytes n) ans)) := by
  have hbytes := rxBytes_of_ne_zero hn
  cases ans with
  | ok bytes =>
    have hlen : (bytes.toList.take (rxBytes n)).length = rxBytes n := by
      rw [List.length_take, Vector.length_toList]
      omega
    exact ⟨rfl, hbytes, hlen⟩
  | err e => exact ⟨rfl, hbytes⟩

/-- The read, right after that write and that delay (R43, R163). -/
theorem TraceInv.legal_read (ht : TraceInv s) (hb : BlockInv s) (hp : s.phase = .read) (ans : ReadAnswer) :
    TraceLegal s.cfg s.addr (s.trace ++ [.read s.addr (rxBytes s.rxlen) (readReply (rxBytes s.rxlen) ans)]) := by
  obtain ⟨hwf, htx, hwait, hlen⟩ := hb.loaded (by simp [hp])
  obtain ⟨before, hpast⟩ := ht.read_after_delay hp
  have hn : s.rxlen ≠ .zero := hb.reads (.inl hp)
  have hpos : rxBytes s.rxlen ≠ 0 := by have := rxBytes_of_ne_zero hn; omega
  exact ht.legal.append (eventOk_read _ _ hn ans) ⟨s.cur, before, hwf, by rw [hlen], hpos, htx ▸ hwait ▸ hpast⟩

end

/-! ### Every step keeps the trace's invariant -/

/-- EVERY MOVE KEEPS the trace's invariant. -/
theorem PhaseMove.keeps_traceInv {s t : State} (hm : PhaseMove s t) (hb : BlockInv s) (ht : TraceInv s) : TraceInv t := by
  cases hm with
  | written hp =>
    have hl := ht.legal_write hb hp .ok
    exact ⟨hl.events_ok, hl.in_order, fun _ => ⟨s.trace, rfl⟩, nofun⟩
  | writeFailed e hp => exact traceInv_of_legal (ht.legal_write hb hp (.err e)) nofun nofun
  | waited hp =>
    have hl := ht.legal_delay hb hp
    obtain ⟨before, hpast⟩ := ht.delay_after_write hp
    exact ⟨hl.events_ok, hl.in_order, nofun, fun _ => ⟨before, by simp [hpast]⟩⟩
  | finished hp => exact traceInv_of_legal (ht.legal_delay hb hp) nofun nofun
  | filled b hp => exact traceInv_of_legal (ht.legal_read hb hp (.ok b)) nofun nofun
  | readFailed e hp => exact traceInv_of_legal (ht.legal_read hb hp (.err e)) nofun nofun
  | wait hp | encode _ hp | refuse _ hp | offered _ hp => exact traceInv_of_legal ht.legal (by simp [hp]) (by simp [hp])
  | accept | measured | flagged | crcFailed | taken => exact traceInv_of_legal ht.legal nofun nofun

/-- Settles O44: block reset keeps the trace and ADDR and leads to IDLE, and every move keeps the invariant. -/
theorem stepKeepsTheTraceOrder : Obligations.StepKeepsTheTraceOrder := by
  intro s t hb ht h
  rcases step_next_cases h with ⟨_, rfl⟩ | ⟨_, hm⟩
  · have hl : TraceLegal s.cfg (busAddress s.cfg.addrSel) s.trace := hb.addr_selected ▸ ht.legal
    exact traceInv_of_legal hl nofun nofun
  · exact hm.keeps_traceInv hb.tick { ht with }

end Sys2Proof.Machine
end

section
/-! PROOFS of the memory family, part 2. The sequencer against the spec's straight-line pseudocode: the phases in turn, each
prepending its event to what the phases after it issue. -/

namespace Sys2Proof.Machine

/-! ### One equation for the four operations -/

/-- What an operation with a response makes of the bytes read (R170, R172). RESET and CLEAR_STATUS read none, and no lemma
uses the value given for them. -/
def responseResult (op : Op) (b : Vector Byte 6) : Result :=
  match op with
  | .measure => measureResult b
  | .status | .reset | .clearStatus => statusResult b

/-- The blocking call of a request, by its command, its wait and its response length (R167, R168). -/
theorem blockingCall_eq (cfg : Config) (addr : BusAddr) (q : Request) (w : WriteAnswer) (r : ReadAnswer) :
    blockingCall cfg addr q w r = writeFirst addr (cfg.cmdOpcode.enc (opc q)) w
      (if lenOf q.op = .zero then ([.delay (waitOf q)], .ok .unit)
        else delayThenRead addr (waitOf q) (rxBytes (lenOf q.op)) r (responseResult q.op)) := by
  obtain ⟨op, cs, rep⟩ := q
  cases op <;> rfl

/-! ### Runs that end in RESPOND -/

/-- What a transaction leaves alone: the construction inputs, ADDR, the host's side and the records but for the trace. -/
def sameAround (s u : State) : Prop :=
  u.cfg = s.cfg ∧ u.addr = s.addr ∧ u.hostPort = s.hostPort ∧ u.hostTakes = s.hostTakes ∧ u.taken = s.taken ∧
    u.refusals = s.refusals

theorem sameAround.trans {s t u : State} (h : sameAround s t) (h' : sameAround t u) : sameAround s u := by
  obtain ⟨hcfg, haddr, hport, htakes, htaken, hrefusals⟩ := h
  simpa [sameAround, hcfg, haddr, hport, htakes, htaken, hrefusals] using h'

/-- Within `n` steps the block offers the result of the call, having issued the events of the call. -/
def Finishes (n : Nat) (s : State) (call : List Event × Result) : Prop :=
  ∃ k u, k ≤ n ∧ Host.Core.run core k s = .next u ∧ u.phase = .respond ∧ u.result = some call.2 ∧
    u.trace = s.trace ++ call.1 ∧ sameAround s u

/-- A result offered is the end. -/
theorem finishes_of_offered {s : State} (n : Nat) (hp : s.phase = .respond) {r : Result} (hr : s.result = some r) :
    Finishes n s ([], r) :=
  ⟨0, s, n.zero_le, rfl, hp, hr, by simp, by simp [sameAround]⟩

/-- The event of a step comes before those of the rest of the run. -/
theorem Finishes.after_event {n : Nat} {s t : State} {e : Event} {call : List Event × Result} (hs : step s = .next t)
    (ht : t.trace = s.trace ++ [e]) (ha : sameAround s t) (hf : Finishes n t call) :
    Finishes (n + 1) s (e :: call.1, call.2) := by
  obtain ⟨k, u, hk, hrun, hp, hres, htr, hau⟩ := hf
  refine ⟨k + 1, u, Nat.succ_le_succ hk, ?_, hp, hres, ?_, ha.trans hau⟩
  · rw [run_of_step (M := core) hs, hrun]
  · simp [htr, ht]

/-! ### The phases, last to first -/

/-- With no block reset to come a step is the step of the phase. -/
theorem step_of_calm {s : State} (h : calm s) : step s = phaseStep (tick s) :=
  step_of_no_reset fun hr => h (List.mem_of_mem_head? hr)

/-- With no block reset to come there is none after a step either. -/
theorem calm_tick {s : State} (h : calm s) : calm (tick s) := fun hr => h (List.mem_of_mem_tail hr)

/-- CHECK of a MEASURE with both groups present: both conversions or Err(Crc) (R165). -/
theorem checkStep_of_measure {s : State} {g g' : Group} (hop : s.cur.op = .measure) (hg : firstGroup s.rxbuf = some g)
    (hg' : secondGroup s.rxbuf = some g') :
    checkStep s = .next { s with
      phase := .respond
      result := some (if crc8 g.d0 g.d1 = g.crc ∧ crc8 g'.d0 g'.d1 = g'.crc then
        .ok (.meas (convT (groupWord g)) (convRH (groupWord g'))) else .err .crc) } := by
  by_cases hv : crc8 g.d0 g.d1 = g.crc <;> by_cases hw : crc8 g'.d0 g'.d1 = g'.crc <;>
    simp [checkStep, checkMeasure, groupValid, hop, hg, hg', hv, hw, respond, raiseError]

/-- CHECK of a STATUS with its group present: the flag view or Err(Crc) (R172). -/
theorem checkStep_of_status {s : State} {g : Group} (hop : s.cur.op = .status) (hg : firstGroup s.rxbuf = some g) :
    checkStep s = .next { s with
      phase := .respond
      result := some (if crc8 g.d0 g.d1 = g.crc then .ok (.status (decodeStatus (groupWord g))) else .err .crc) } := by
  by_cases hv : crc8 g.d0 g.d1 = g.crc <;> simp [checkStep, checkStatus, groupValid, hop, hg, hv, respond, raiseError]

/-- A read of three bytes or more fills the first group. -/
theorem firstGroup_fillRx {n : Nat} (hn : 3 ≤ n) (b : Vector Byte 6) (buf : Vector (Option Byte) 6) :
    firstGroup (fillRx n b buf) = some ⟨b[0], b[1], b[2]⟩ := by
  simp [firstGroup, fillRx_getElem, show 0 < n by omega, show 1 < n by omega, show 2 < n by omega]

/-- A read of six bytes fills the second group. -/
theorem secondGroup_fillRx (b : Vector Byte 6) (buf : Vector (Option Byte) 6) :
    secondGroup (fillRx 6 b buf) = some ⟨b[3], b[4], b[5]⟩ := by
  simp [secondGroup, fillRx_getElem]

/-- CHECK makes of the bytes read what the pseudocode makes of them. -/
theorem checkStep_of_filled {s : State} {b : Vector Byte 6} {buf : Vector (Option Byte) 6} (hlen : lenOf s.cur.op ≠ .zero)
    (hbuf : s.rxbuf = fillRx (rxBytes (lenOf s.cur.op)) b buf) :
    checkStep s = .next { s with phase := .respond, result := some (responseResult s.cur.op b) } := by
  cases hop : s.cur.op with
  | reset | clearStatus => simp [hop, lenOf] at hlen
  | measure =>
    rw [hop] at hbuf
    have hg := hbuf ▸ firstGroup_fillRx (n := 6) (by decide) b buf
    have hg' := hbuf ▸ secondGroup_fillRx b buf
    simpa [responseResult, measureResult, groupWord, joinBytes] using checkStep_of_measure hop hg hg'
  | status =>
    rw [hop] at hbuf
    have hg := hbuf ▸ firstGroup_fillRx (n := 3) (by decide) b buf
    simpa [responseResult, statusResult, groupWord, joinBytes] using checkStep_of_status hop hg

section
variable {s : State}

/-- CHECK ends the transaction with no event. -/
theorem finishes_of_check {b : Vector Byte 6} {buf : Vector (Option Byte) 6} (hc : calm s) (hp : s.phase = .check)
    (hlen : lenOf s.cur.op ≠ .zero) (hbuf : s.rxbuf = fillRx (rxBytes (lenOf s.cur.op)) b buf) :
    Finishes 1 s ([], responseResult s.cur.op b) := by
  have hs := step_of_calm hc
  rw [phaseStep_of_check (s := tick s) hp, checkStep_of_filled (s := tick s) hlen hbuf] at hs
  exact ⟨1, _, le_rfl, run_of_step (M := core) hs 0, rfl, rfl, by simp, by simp [sameAround]⟩

/-- READ with bytes answered: the read, then what the pseudocode makes of the bytes. -/
theorem finishes_of_read_ok {b : Vector Byte 6} (hc : calm s) (hp : s.phase = .read) (hrx : s.rxlen = lenOf s.cur.op)
    (hlen : lenOf s.cur.op ≠ .zero) (ha : readAnswer s = .ok b) :
    Finishes 2 s ([.read s.addr (rxBytes s.rxlen) (.ok (b.toList.take (rxBytes s.rxlen)))], responseResult s.cur.op b) := by
  have hs := step_of_calm hc
  rw [phaseStep_of_read (s := tick s) hp, readStep_of_ok (s := tick s) ha] at hs
  have hbuf : fillRx (rxBytes s.rxlen) b s.rxbuf = fillRx (rxBytes (lenOf s.cur.op)) b s.rxbuf := by rw [hrx]
  exact .after_event hs rfl (by simp [sameAround]) (finishes_of_check (calm_tick hc) rfl hlen hbuf)

/-- READ with a failure answered: the read, then Bus. -/
theorem finishes_of_read_err {e : TransportError} (hc : calm s) (hp : s.phase = .read) (ha : readAnswer s = .err e) :
    Finishes 2 s ([.read s.addr (rxBytes s.rxlen) (.err e)], .err (.bus e)) := by
  have hs := step_of_calm hc
  rw [phaseStep_of_read (s := tick s) hp, readStep_of_err (s := tick s) ha] at hs
  exact .after_event hs rfl (by simp [sameAround]) (finishes_of_offered 1 rfl rfl)

/-- DELAY with no response expected: the delay, then Ok(()). -/
theorem finishes_of_delay_unit (hc : calm s) (hp : s.phase = .delay) (hn : s.rxlen = .zero) :
    Finishes 3 s ([.delay s.waitMs], .ok .unit) := by
  have hs := step_of_calm hc
  rw [phaseStep_of_delay (s := tick s) hp, delayStep_of_zero (s := tick s) hn] at hs
  exact .after_event hs rfl (by simp [sameAround]) (finishes_of_offered 2 rfl rfl)

/-- DELAY with a response expected: the pseudocode from its `Delay` on. -/
theorem finishes_of_delay_read (hc : calm s) (hp : s.phase = .delay) (hrx : s.rxlen = lenOf s.cur.op) (hn : s.rxlen ≠ .zero) :
    Finishes 3 s (delayThenRead s.addr s.waitMs (rxBytes s.rxlen) (readAnswer s) (responseResult s.cur.op)) := by
  have hs := step_of_calm hc
  rw [phaseStep_of_delay (s := tick s) hp, delayStep_of_ne_zero (s := tick s) hn] at hs
  cases ha : readAnswer s with
  | ok b => exact .after_event hs rfl (by simp [sameAround]) (finishes_of_read_ok (calm_tick hc) rfl hrx (hrx ▸ hn) ha)
  | err e => exact .after_event hs rfl (by simp [sameAround]) (finishes_of_read_err (calm_tick hc) rfl ha)

/-- WRITE: the first line of the pseudocode, before what follows a successful write. -/
theorem finishes_of_write {word : Word16} {rest : List Event × Result} (hc : calm s) (hp : s.phase = .write)
    (htx : s.txbuf = frameOf word)
    (hrest : Finishes 3 (enter .delay (record (.write s.addr s.txbuf .ok) (advanceWrite (tick s)))) rest) :
    Finishes 4 s (writeFirst s.addr word (writeAnswer s) rest) := by
  have hs := step_of_calm hc
  rw [phaseStep_of_write (s := tick s) hp] at hs
  unfold writeFirst
  rw [← htx]
  cases ha : writeAnswer s with
  | ok =>
    rw [writeStep_of_ok (s := tick s) ha] at hs
    exact .after_event hs rfl (by simp [sameAround]) hrest
  | err e =>
    rw [writeStep_of_err (s := tick s) ha] at hs
    exact .after_event hs rfl (by simp [sameAround]) (finishes_of_offered 3 rfl rfl)

/-- THE BLOCKING CALL: an accepted request runs to the result of the pseudocode, with the events of the pseudocode. -/
theorem finishes_of_accept (hc : calm s) (q : Request) :
    Finishes 4 (accept q s) (blockingCall s.cfg s.addr q (writeAnswer s) (readAnswer s)) := by
  rw [blockingCall_eq]
  refine finishes_of_write (s := accept q s) hc rfl rfl ?_
  split
  case isTrue hn => exact finishes_of_delay_unit (calm_tick (s := accept q s) hc) rfl hn
  case isFalse hn => exact finishes_of_delay_read (calm_tick (s := accept q s) hc) rfl rfl hn

end

/-- A legal record is the one its instruction spells (R71). -/
theorem request?_ofRequest {q : Request} (hq : q.wellFormed = true) : (Instr.ofRequest q).request? = some q := by
  obtain ⟨op, cs, rep⟩ := q
  cases op <;> simp_all [Request.wellFormed, Instr.ofRequest, Instr.request?]

/-- Settles O50: the request is accepted, and an accepted request runs as the pseudocode does. -/
theorem sequencerRunsTheBlockingCall : Obligations.SequencerRunsTheBlockingCall := by
  intro q s hq hp hc
  have hexec : exec (Instr.ofRequest q) s = .next (accept q s) := by
    rw [exec_of_request (request?_ofRequest hq), request_of_idle q hp]
  obtain ⟨k, u, hk, hrun, hph, hres, htr, haround⟩ := finishes_of_accept hc q
  exact ⟨_, k, u, hexec, hk, hrun, hph, hres, htr, haround⟩

end Sys2Proof.Machine
end

section
/-! PROOFS of the encoding family, part 1. The decoder of commands inverts ENC because a legal table's words are pairwise
distinct; the decoder of requests inverts the request word because that word is its fields side by side. -/

namespace Sys2Proof

/-! ### Finding a member of a list by its key -/

/-- Where the keys of a list are pairwise distinct, the search for a member's key finds that member. -/
theorem find?_key_of_nodup {α β : Type} [BEq β] [LawfulBEq β] {key : α → β} {l : List α} {a : α} (h : (l.map key).Nodup)
    (ha : a ∈ l) : l.find? (fun x => key x == key a) = some a := by
  cases hf : l.find? (fun x => key x == key a) with
  | none => exact absurd (beq_self_eq_true (key a)) (List.find?_eq_none.mp hf a ha)
  | some b =>
    have hkey : key b = key a := by simpa using List.find?_some hf
    rw [List.inj_on_of_nodup_map h (List.mem_of_find?_eq_some hf) ha hkey]

/-! ### ENC and the decoder of commands -/

section
variable {t : OpcodeTable}

/-- ENC gives the commands pairwise distinct words under a legal table (R80, R110). -/
theorem OpcodeTable.nodup_map_enc (h : t.legal = true) : (Command.all.map t.enc).Nodup := by
  rw [OpcodeTable.legal, Bool.and_eq_true, decide_eq_true_eq] at h
  exact t.words_eq_map ▸ h.1

/-- R62: ENC is injective. -/
theorem OpcodeTable.enc_injective (h : t.legal = true) : Function.Injective t.enc := fun c c' =>
  List.inj_on_of_nodup_map (nodup_map_enc h) c.mem_all c'.mem_all

/-- A command is read back from its word. -/
theorem decodeCommand_enc (h : t.legal = true) (c : Command) : decodeCommand t (t.enc c) = .ok c := by
  rw [decodeCommand, find?_key_of_nodup (OpcodeTable.nodup_map_enc h) c.mem_all]

/-- A word outside the table is no command's, so the search for its command fails (R64). -/
theorem decodeCommand_of_notMem {w : Word16} (h : w ∉ t.words) : decodeCommand t w = .error (.notACommand w) := by
  have hnone : Command.all.find? (fun c => t.enc c == w) = none := by
    rw [List.find?_eq_none]
    intro c hc he
    exact h (t.words_eq_map ▸ List.mem_map.mpr ⟨c, hc, eq_of_beq he⟩)
  rw [decodeCommand, hnone]

end

/-! ### The fields of a request word (R70) -/

/-- A byte is its fields of widths 3, 2, 1 and 2 side by side. -/
theorem requestFields_append (w : Byte) :
    w.extractLsb' 5 3 ++ w.extractLsb' 3 2 ++ w.extractLsb' 2 1 ++ w.extractLsb' 0 2 = w := by
  have h3 : w.extractLsb' 5 3 ++ w.extractLsb' 3 2 = w.extractLsb' 3 5 :=
    BitVec.extractLsb'_append_extractLsb'_eq_extractLsb' rfl
  have h2 : w.extractLsb' 3 5 ++ w.extractLsb' 2 1 = w.extractLsb' 2 6 :=
    BitVec.extractLsb'_append_extractLsb'_eq_extractLsb' rfl
  have h0 : w.extractLsb' 2 6 ++ w.extractLsb' 0 2 = w.extractLsb' 0 8 :=
    BitVec.extractLsb'_append_extractLsb'_eq_extractLsb' rfl
  rw [h3, h2, h0, BitVec.extractLsb'_eq_self]

/-- A word whose fields are those of a record is the word of that record. -/
theorem encodeReq_eq_of_fields {q : Request} {w : Byte} (hz : w.extractLsb' 5 3 = 0) (hr : w.extractLsb' 3 2 = repField q.rep)
    (hc : w.extractLsb' 2 1 = stretchBit q.cs) (ho : w.extractLsb' 0 2 = opField q.op) : encodeReq q = w := by
  have hw := requestFields_append w
  rwa [hz, hr, hc, ho] at hw

/-- Where `REQ[4:2]` is 0, the fields `r` and `c` that it consists of are 0. -/
theorem rep_stretch_of_no_operands {w : Byte} (h : w.extractLsb' 2 3 = 0) :
    w.extractLsb' 3 2 = 0 ∧ w.extractLsb' 2 1 = 0 := by
  have happ : w.extractLsb' 3 2 ++ w.extractLsb' 2 1 = 0#3 :=
    (BitVec.extractLsb'_append_extractLsb'_eq_extractLsb' rfl).trans h
  constructor
  · rw [← BitVec.extractLsb'_append_eq_left (a := w.extractLsb' 3 2) (b := w.extractLsb' 2 1), happ]
    rfl
  · rw [← BitVec.extractLsb'_append_eq_right (a := w.extractLsb' 3 2) (b := w.extractLsb' 2 1), happ]
    rfl

/-- The field `r` that is read as a repeatability is that repeatability's. -/
theorem eq_repField_of_repOfField {r : BitVec 2} {rep : Repeatability} (h : repOfField r = some rep) : r = repField rep := by
  unfold repOfField at h
  split_ifs at h <;> cases h <;> assumption

/-- The field `c` is the bit of the clock-stretch mode that is read from it. -/
theorem extractLsb'_eq_stretchBit (w : Byte) : w.extractLsb' 2 1 = stretchBit (stretchOfBit (w.getLsbD 2)) := by
  rw [BitVec.getLsbD_eq_extractLsb']
  rcases BitVec.eq_zero_or_eq_one (w.extractLsb' 2 1) with h | h <;> rw [h] <;> rfl

/-- The value of the field `op` that is none of the first three is CLEAR_STATUS's. -/
theorem op_eq_three {op : BitVec 2} (h0 : op ≠ 0b00) (h1 : op ≠ 0b01) (h2 : op ≠ 0b10) : op = 0b11 := by
  revert op; decide

/-! ### The decoder of requests (R71) -/

/-- The legal records are the nine of the list. -/
theorem Request.mem_all_of_wellFormed {q : Request} (h : q.wellFormed = true) : q ∈ Request.all := by
  obtain ⟨op, cs, rep⟩ := q
  cases op with
  | measure => cases cs <;> cases rep <;> decide
  | reset | status | clearStatus =>
    obtain ⟨rfl, rfl⟩ : cs = .disabled ∧ rep = .high := by simpa [Request.wellFormed] using h
    decide

/-- A legal record is read back from its word. -/
theorem decodeReq_encodeReq {q : Request} (h : q.wellFormed = true) : decodeReq (encodeReq q) = .ok q :=
  have hall : ∀ q ∈ Request.all, decodeReq (encodeReq q) = .ok q := by decide
  hall q (Request.mem_all_of_wellFormed h)

/-- The record of an accepted word is legal and has that word: each accepting branch has read all four fields. -/
theorem wellFormed_encodeReq_of_decodeReq {w : Byte} {q : Request} (h : decodeReq w = .ok q) :
    q.wellFormed = true ∧ encodeReq q = w := by
  unfold decodeReq at h
  extract_lets op r operands at h
  split at h
  case isTrue => cases h
  case isFalse hreserved =>
    have hz : w.extractLsb' 5 3 = 0 := not_not.mp hreserved
    split at h
    case isTrue ho =>
      cases hr : repOfField r with
      | none => simp [hr] at h
      | some rep =>
        obtain rfl : _ = q := by simpa [hr] using h
        exact ⟨rfl, encodeReq_eq_of_fields hz (eq_repField_of_repOfField hr) (extractLsb'_eq_stretchBit w) ho⟩
    case isFalse hmeasure =>
      split at h
      case isTrue => cases h
      case isFalse hoperands =>
        obtain ⟨hr, hc⟩ := rep_stretch_of_no_operands (not_not.mp hoperands)
        split_ifs at h with hreset hstatus <;> cases h
        · exact ⟨rfl, encodeReq_eq_of_fields hz hr hc hreset⟩
        · exact ⟨rfl, encodeReq_eq_of_fields hz hr hc hstatus⟩
        · exact ⟨rfl, encodeReq_eq_of_fields hz hr hc (op_eq_three hmeasure hreset hstatus)⟩

/-- A word that no legal record has is refused. -/
theorem decodeReq_toOption_of_notMem {w : Byte} (h : w ∉ Request.all.map encodeReq) : (decodeReq w).toOption = none := by
  cases hd : decodeReq w with
  | error e => rfl
  | ok q =>
    obtain ⟨hq, rfl⟩ := wellFormed_encodeReq_of_decodeReq hd
    exact absurd (List.mem_map_of_mem (Request.mem_all_of_wellFormed hq)) h

/-! ### The instruction's word -/

/-- A row that spells a request is the row of that request. -/
theorem Instr.ofRequest_of_request? {i : Instr} {q : Request} (h : i.request? = some q) : Instr.ofRequest q = i := by
  cases i <;> simp only [Instr.request?, reduceCtorEq, Option.some.injEq] at h <;> subst h <;> rfl

/-- The word of a legal record's row is the word of the record. -/
theorem encode_ofRequest (t : OpcodeTable) {q : Request} (h : q.wellFormed = true) :
    encode t (Instr.ofRequest q) = .request (encodeReq q) := by
  have hq := Request.mem_all_of_wellFormed h
  fin_cases hq <;> rfl

/-- An instruction is read back from its word under a legal table: its record, or its command, is. -/
theorem decode_encode {t : OpcodeTable} (h : t.legal = true) (i : Instr) : decode t (encode t i) = .ok i := by
  rcases Machine.request_or_command i with ⟨q, hq⟩ | ⟨c, hc⟩
  · have hwf := Machine.wellFormed_of_request? hq
    obtain rfl := Instr.ofRequest_of_request? hq
    rw [encode_ofRequest t hwf, decode, decodeReq_encodeReq hwf, Except.map]
  · obtain rfl := Instr.ofCommand_of_command? hc
    rw [encode_ofCommand, decode, decodeCommand_enc h, Except.map]

/-- A mapped answer is a value only where the answer is one. -/
theorem exists_ok_of_map_eq_ok {ε α β : Type} {f : α → β} {x : Except ε α} {b : β} (h : x.map f = .ok b) :
    ∃ a, x = .ok a ∧ f a = b := by
  cases x with
  | error e => cases h
  | ok a => exact ⟨a, rfl, Except.ok.inj h⟩

/-- A word that decodes to an instruction is its word: a request word is its record's, a command word ENC of its command. -/
theorem encode_of_decode {t : OpcodeTable} {w : HostWord} {i : Instr} (h : decode t w = .ok i) : encode t i = w := by
  cases w with
  | request w =>
    obtain ⟨q, hq, rfl⟩ := exists_ok_of_map_eq_ok h
    obtain ⟨hwf, rfl⟩ := wellFormed_encodeReq_of_decodeReq hq
    exact encode_ofRequest t hwf
  | command w =>
    obtain ⟨c, hc, rfl⟩ := exists_ok_of_map_eq_ok h
    rw [encode_ofCommand, enc_of_decodeCommand hc]

/-- The bytes of a presented word decode as the word does. -/
theorem decodeBytes_bytes (t : OpcodeTable) (w : HostWord) : decodeBytes t w.bytes = (decode t w).toOption := by
  rw [decodeBytes, HostWord.ofBytes_bytes]

/-- Settles O3: the word is read back, and the bytes are those of the word. -/
theorem decodeReadsEncodedInstruction : Obligations.DecodeReadsEncodedInstruction := by
  intro t h i
  refine ⟨decode_encode h i, ?_⟩
  rw [decodeBytes_bytes, decode_encode h i]
  rfl

/-- Settles O4, on request words and on command words. -/
theorem decodedWordIsTheEncoding : Obligations.DecodedWordIsTheEncoding := fun _ _ _ => encode_of_decode

/-- Settles O5: a legal table's words are pairwise distinct, and so are the default table's. -/
theorem encoderIsInjective : Obligations.EncoderIsInjective :=
  ⟨fun _ h _ _ hc => OpcodeTable.enc_injective h hc, by decide, rfl, by decide⟩

/-- Settles O1, by running the decoder on each word. -/
theorem knownWordsDecode : Obligations.KnownWordsDecode :=
  ⟨rfl, rfl, rfl, rfl, rfl, rfl, rfl, rfl, rfl, rfl, rfl, rfl, rfl, rfl, rfl, rfl, rfl, rfl, rfl⟩

set_option maxRecDepth 10000 in
/-- R71 counts the refused words. -/
theorem refusedRequestWords_length :
    ((List.range 256).filter fun n => (decodeReq (BitVec.ofNat 8 n)).toOption.isNone).length = 247 := by decide

/-- Settles O2: the words listed are those of the nine legal records. -/
theorem requestWordsDecodeAsListed : Obligations.RequestWordsDecodeAsListed :=
  ⟨rfl, rfl, rfl, rfl, rfl, rfl, rfl, rfl, rfl, fun _ hw => decodeReq_toOption_of_notMem hw, refusedRequestWords_length⟩

/-! ### The request syntax (R74) -/

/-- Settles O7: the nine lines are pairwise distinct, so each finds its own request. -/
theorem requestTextReadsBack : Obligations.RequestTextReadsBack :=
  have hdistinct : (Request.all.map requestText).Nodup := by decide
  ⟨fun _ hq => find?_key_of_nodup hdistinct hq, rfl, rfl, rfl, rfl, rfl, rfl⟩

end Sys2Proof
end

section
/-! PROOFS of the encoding family, part 2. The response in its flat form, and the mark that a refused word leaves. -/

namespace Sys2Proof.Machine

/-! ### The response (R75) -/

/-- The result is recovered from its flat form. -/
theorem resultOf_responseOf (r : Result) : resultOf (responseOf r) = some r := by
  rcases r with (_ | _ | _) | (_ | _) <;> rfl

/-- Kinds 5 to 7 are never produced. -/
theorem responseOf_kind_lt (r : Result) : (responseOf r).k.toNat < 5 := by
  rcases r with (_ | _ | _) | (_ | _) <;> simp [responseOf]

/-- A flat form stands for a result only with the kind of its payload, and is then that result's. -/
theorem responseOf_of_resultOf {p : Response} {r : Result} (h : resultOf p = some r) : responseOf r = p := by
  obtain ⟨k, payload⟩ := p
  cases payload with
  | none | meas | flags | detail =>
    simp only [resultOf] at h
    split_ifs at h <;> cases h <;> subst_vars <;> rfl

/-- Settles O8, result by result and payload by payload. -/
theorem responseKindsAreDistinct : Obligations.ResponseKindsAreDistinct :=
  ⟨rfl, fun _ _ => rfl, fun _ => rfl, rfl, fun _ => rfl, fun r => ⟨resultOf_responseOf r, responseOf_kind_lt r⟩,
    fun _ _ => responseOf_of_resultOf⟩

/-! ### A presented word that spells no instruction -/

/-- In IDLE a refused word leaves the port with a mark, one sample of the block-reset input used, and nothing else (R72). -/
theorem step_of_refused {s : State} {w : HostWord} {rest : List HostWord} {e : DecodeError} (hp : s.phase = .idle)
    (hr : s.resetLine.head? ≠ some true) (hport : s.hostPort = w :: rest) (hd : decode s.cfg.cmdOpcode w = .error e) :
    step s = .next { s with hostPort := rest, resetLine := s.resetLine.tail, refusals := s.refusals ++ [e] } := by
  rw [step_of_no_reset hr, phaseStep_of_idle (s := tick s) hp, idleStep_of_refused (s := tick s) hport hd]
  simp [markRefused, consume, tick, hport]

/-- Settles O30: the decoder refuses the word for the reason `decodeReq` names. -/
theorem refusedRequestLeavesAMark : Obligations.RefusedRequestLeavesAMark := by
  intro s w rest e hp hr hport he
  exact step_of_refused hp hr hport (by rw [decode, he, Except.map])

/-- Settles O31: a word outside the table is no command's. -/
theorem unlistedCommandWordLeavesAMark : Obligations.UnlistedCommandWordLeavesAMark := by
  intro s w rest hp hr hport hw
  exact step_of_refused hp hr hport (by rw [decode, decodeCommand_of_notMem hw, Except.map])

end Sys2Proof.Machine
end

section
/-! PROOFS of the command-encoder family. Every row is the encoder on its command, so a row's frame is the two bytes of its
word; the frame of a command that no request sends is no request's, because ENC and the frame are injective. -/

namespace Sys2Proof.Machine

/-! ### The frame tells the word -/

/-- The frame of two bytes side by side is these bytes (R41). -/
theorem frameOf_append (b0 b1 : Byte) : frameOf (b0 ++ b1) = ⟨b0, b1⟩ := by
  rw [frameOf, hiByte, loByte, BitVec.extractLsb'_append_eq_left, BitVec.extractLsb'_append_eq_right]

/-- Words with one frame are one word: it is the frame's bytes, joined. -/
theorem frameOf_injective : Function.Injective frameOf := by
  intro w w' h
  obtain ⟨hhi, hlo⟩ : hiByte w = hiByte w' ∧ loByte w = loByte w' := Frame.mk.inj h
  rw [← joinBytes_hi_lo w, hhi, hlo, joinBytes_hi_lo]

/-! ### The commands that requests send -/

/-- The nine commands that some request sends (R73, R168). -/
def issuedCommands : List Command :=
  [.singleShot .enabled .high, .singleShot .enabled .medium, .singleShot .enabled .low, .singleShot .disabled .high,
   .singleShot .disabled .medium, .singleShot .disabled .low, .softReset, .readStatus, .clearStatus]

theorem opc_mem_issuedCommands (q : Request) : opc q ∈ issuedCommands := by
  obtain ⟨op, cs, rep⟩ := q
  cases op with
  | measure => cases cs <;> cases rep <;> decide
  | reset | status | clearStatus => simp [opc, issuedCommands]

/-- No request sends a command outside the nine, nor, under a legal table, its frame (R73, R110). -/
theorem opc_ne_of_notMem {t : OpcodeTable} (ht : t.legal = true) {c : Command} (hc : c ∉ issuedCommands) (q : Request) :
    opc q ≠ c ∧ frameOf (t.enc (opc q)) ≠ frameOf (t.enc c) := by
  have hne : opc q ≠ c := fun h => hc (h ▸ opc_mem_issuedCommands q)
  exact ⟨hne, fun h => hne (OpcodeTable.enc_injective ht (frameOf_injective h))⟩

/-! ### The rows -/

/-- A command's row, under a table that gives the command the bytes `b0` and `b1`, puts them into TXBUF (R80). -/
theorem exec_of_command_bytes {i : Instr} {c : Command} {s : State} {b0 b1 : Byte} (hi : i.command? = some c)
    (hw : s.cfg.cmdOpcode.enc c = b0 ++ b1) : exec i s = .next { s with txbuf := ⟨b0, b1⟩ } := by
  rw [exec_of_command hi, encodeInto, hw, frameOf_append]

/-- Rows of commands outside the nine, with their bytes in the default table: the frame, and no request's (R73, R80). -/
theorem encodeOnlyRows_encode {rows : List (Instr × Command × Byte × Byte)}
    (hrows : ∀ p ∈ rows, p.1.command? = some p.2.1 ∧ p.2.1 ∉ issuedCommands ∧
      OpcodeTable.sht3x.enc p.2.1 = p.2.2.1 ++ p.2.2.2) (s : State) (hs : s.cfg.cmdOpcode = OpcodeTable.sht3x) :
    ∀ p ∈ rows, exec p.1 s = .next { s with txbuf := ⟨p.2.2.1, p.2.2.2⟩ } ∧
      s.cfg.cmdOpcode.enc p.2.1 = p.2.2.1 ++ p.2.2.2 ∧
      ∀ q : Request, opc q ≠ p.2.1 ∧ frameOf (s.cfg.cmdOpcode.enc (opc q)) ≠ ⟨p.2.2.1, p.2.2.2⟩ := by
  intro p hp
  obtain ⟨hi, hc, hw⟩ := hrows p hp
  have ht : s.cfg.cmdOpcode.legal = true := hs ▸ by decide
  rw [← hs] at hw
  refine ⟨exec_of_command_bytes hi hw, hw, fun q => ?_⟩
  rw [← frameOf_append, ← hw]
  exact opc_ne_of_notMem ht hc q

/-! ### The requests that issue a command -/

/-- WRITE goes on and records the frame of TXBUF with the transport's answer (R161). -/
theorem writeStep_records (s : State) :
    ∃ u, writeStep s = .next u ∧ u.trace = s.trace ++ [.write s.addr s.txbuf (writeAnswer s)] := by
  rcases writeStep_cases s with ⟨ha, e⟩ | ⟨d, ha, e⟩ <;> rw [ha] <;> exact ⟨_, e, rfl⟩

/-- In IDLE a request is accepted, and its write puts the bytes of its command into the trace (R160, R161). -/
theorem exec_of_request_issues {i : Instr} {q : Request} {s : State} {b0 b1 : Byte} (hi : i.request? = some q)
    (hp : s.phase = .idle) (hw : s.cfg.cmdOpcode.enc (opc q) = b0 ++ b1) :
    exec i s = .next (accept q s) ∧
    ∃ u, writeStep (accept q s) = .next u ∧ u.trace = s.trace ++ [.write s.addr ⟨b0, b1⟩ (writeAnswer s)] := by
  refine ⟨by rw [exec_of_request hi, request_of_idle q hp], ?_⟩
  rw [← frameOf_append, ← hw]
  exact writeStep_records (accept q s)

/-! ### The obligations -/

/-- Settles O18: the row of a command stands for it, and every request sends one of the nine. -/
theorem commandRowsOnlyWriteTheFrame : Obligations.CommandRowsOnlyWriteTheFrame :=
  ⟨fun c s => exec_of_command (Instr.command?_ofCommand c) s, opc_mem_issuedCommands⟩

/-- Settles O19: each row's command is the one MEASURE of the same operands sends. -/
theorem singleShotCommandsEncode : Obligations.SingleShotCommandsEncode := by
  intro s hs p hp
  obtain ⟨hi, hw, hms⟩ : p.1.command? = some (opc ⟨.measure, p.2.1, p.2.2.1⟩) ∧
      OpcodeTable.sht3x.enc (opc ⟨.measure, p.2.1, p.2.2.1⟩) = p.2.2.2.1 ++ p.2.2.2.2.1 ∧
      waitOf ⟨.measure, p.2.1, p.2.2.1⟩ = p.2.2.2.2.2 := by
    revert p
    decide
  rw [← hs] at hw
  refine ⟨exec_of_command_bytes hi hw, fun hidle => ?_⟩
  obtain ⟨hexec, u, hu, htrace⟩ := exec_of_request_issues (i := .measure p.2.1 p.2.2.1) rfl hidle hw
  exact ⟨_, u, hexec, hms, hu, htrace⟩

/-- Settles O20, row by row in the default table. -/
theorem slowPeriodicCommandsEncode : Obligations.SlowPeriodicCommandsEncode := encodeOnlyRows_encode (by decide)

/-- Settles O21, row by row in the default table. -/
theorem fastPeriodicCommandsEncode : Obligations.FastPeriodicCommandsEncode := encodeOnlyRows_encode (by decide)

/-- Settles O22, row by row in the default table. -/
theorem encodeOnlyCommandsEncode : Obligations.EncodeOnlyCommandsEncode := encodeOnlyRows_encode (by decide)

/-- Settles O23: the second instruction of each row spells a request that sends the first one's command. -/
theorem issuedCommandsEncode : Obligations.IssuedCommandsEncode := by
  intro s hs p hp
  obtain ⟨q, hr, hi, hw, hms, hn⟩ : ∃ q, p.2.1.request? = some q ∧ p.1.command? = some (opc q) ∧
      OpcodeTable.sht3x.enc (opc q) = p.2.2.1 ++ p.2.2.2.1 ∧ waitOf q = 1 ∧ rxBytes (lenOf q.op) = p.2.2.2.2 := by
    fin_cases hp <;> exact ⟨_, rfl, rfl, rfl, rfl, rfl⟩
  rw [← hs] at hw
  refine ⟨exec_of_command_bytes hi hw, fun hidle => ?_⟩
  obtain ⟨hexec, u, hu, htrace⟩ := exec_of_request_issues hr hidle hw
  exact ⟨_, u, hexec, hms, hn, hu, htrace⟩

end Sys2Proof.Machine
end

section
/-! PROOFS of the CRC-8 family. A round is linear over XOR and maps only 0 to 0, so a change of a group's data moves the check
byte by the rounds of the change alone. A change thus passes exactly when its second byte is eight rounds of its first, and
such a change has at least four bits. -/

namespace Sys2Proof.Machine

/-! ### One round -/

/-- One round on the accumulator's value (R120). -/
theorem crcRound_toNat (c : Byte) :
    (crcRound c).toNat = if 128 ≤ c.toNat then (2 * c.toNat % 256) ^^^ 0x31 else 2 * c.toNat := by
  have hshift : (c <<< 1).toNat = 2 * c.toNat % 256 := by
    rw [BitVec.toNat_shiftLeft, Nat.shiftLeft_eq, Nat.mul_comm]
  have hbit : c.getLsbD 7 = decide (128 ≤ c.toNat) := BitVec.msb_eq_decide c
  by_cases h : 128 ≤ c.toNat
  · simp [crcRound, crcPoly, hbit, h, hshift]
  · simp only [crcRound, hbit, h, decide_false, Bool.false_eq_true, if_false, hshift]
    omega

/-- A round is linear: the polynomial goes in once for each high bit that is set, and twice is not at all. -/
theorem crcRound_xor (a b : Byte) : crcRound (a ^^^ b) = crcRound a ^^^ crcRound b := by
  have hround (c : Byte) : crcRound c = c <<< 1 ^^^ (if c.getLsbD 7 then crcPoly else 0) := by
    unfold crcRound
    split <;> simp
  have hpoly : (if (a ^^^ b).getLsbD 7 then crcPoly else 0) =
      (if a.getLsbD 7 then crcPoly else 0) ^^^ (if b.getLsbD 7 then crcPoly else 0) := by
    rw [BitVec.getLsbD_xor]
    cases a.getLsbD 7 <;> cases b.getLsbD 7 <;> rfl
  rw [hround, hround, hround, hpoly, BitVec.shiftLeft_xor_distrib]
  ac_rfl

/-- Only 0 is taken to 0: the polynomial is odd, and what a shift leaves is even. -/
theorem crcRound_eq_zero {c : Byte} (h : crcRound c = 0) : c = 0 := by
  have hval : 0 = if 128 ≤ c.toNat then (2 * c.toNat % 256) ^^^ 0x31 else 2 * c.toNat := by
    rw [← crcRound_toNat, h]
    rfl
  suffices c.toNat = 0 from BitVec.eq_of_toNat_eq this
  split at hval
  · have hpoly : 2 * c.toNat % 256 = 0x31 := Nat.xor_eq_zero_iff.1 hval.symm
    omega
  · omega

/-! ### Rounds, and the check byte -/

theorem crcRounds_xor (n : Nat) (a b : Byte) : crcRounds n (a ^^^ b) = crcRounds n a ^^^ crcRounds n b := by
  induction n generalizing a b with
  | zero => rfl
  | succ n ih => rw [crcRounds, crcRound_xor, ih]; rfl

theorem crcRounds_eq_zero {n : Nat} {c : Byte} (h : crcRounds n c = 0) : c = 0 := by
  induction n generalizing c with
  | zero => exact h
  | succ n ih => exact crcRound_eq_zero (ih h)

theorem crcRounds_zero (n : Nat) : crcRounds n 0 = 0 := by
  induction n with
  | zero => rfl
  | succ n ih => exact ih

/-- A change of the payload moves the check byte by the rounds of the change, whatever the payload. -/
theorem crc8_xor (d0 d1 e0 e1 : Byte) :
    crc8 (d0 ^^^ e0) (d1 ^^^ e1) = crc8 d0 d1 ^^^ crcRounds 8 (crcRounds 8 e0 ^^^ e1) := by
  calc crcRounds 8 (crcRounds 8 (crcInit ^^^ (d0 ^^^ e0)) ^^^ (d1 ^^^ e1))
    _ = crcRounds 8 ((crcRounds 8 (crcInit ^^^ d0) ^^^ d1) ^^^ (crcRounds 8 e0 ^^^ e1)) := by
      rw [← BitVec.xor_assoc crcInit, crcRounds_xor 8 (crcInit ^^^ d0)]
      ac_rfl
    _ = crc8 d0 d1 ^^^ crcRounds 8 (crcRounds 8 e0 ^^^ e1) := crcRounds_xor ..

/-! ### Which changes of a valid group pass -/

/-- A changed payload passes with the old check byte exactly when the change's second byte is eight rounds of its first. -/
theorem groupValid_xor_iff {g : Group} (hg : groupValid g = true) (e0 e1 : Byte) :
    groupValid { g with d0 := g.d0 ^^^ e0, d1 := g.d1 ^^^ e1 } = true ↔ e1 = crcRounds 8 e0 := by
  have hcrc : crc8 g.d0 g.d1 = g.crc := beq_iff_eq.1 hg
  have hkept : groupValid { g with d0 := g.d0 ^^^ e0, d1 := g.d1 ^^^ e1 } = true ↔
      crcRounds 8 (crcRounds 8 e0 ^^^ e1) = 0 := by
    rw [groupValid, beq_iff_eq, crc8_xor, hcrc, xor_left_eq_self_iff]
  rw [hkept]
  constructor
  · intro h
    exact (BitVec.xor_eq_zero_iff.1 (crcRounds_eq_zero h)).symm
  · rintro rfl
    rw [BitVec.xor_self]
    exact crcRounds_zero 8

/-- A change within the first byte of a valid group's data is detected. -/
theorem groupValid_xor_d0 {g : Group} (hg : groupValid g = true) {e : Byte} (he : e ≠ 0) :
    groupValid { g with d0 := g.d0 ^^^ e } = false := by
  rw [← Bool.not_eq_true]
  intro h
  have hpass : 0 = crcRounds 8 e := (groupValid_xor_iff hg e 0).1 (by simpa using h)
  exact he (crcRounds_eq_zero hpass.symm)

/-- A change within the second byte of a valid group's data is detected. -/
theorem groupValid_xor_d1 {g : Group} (hg : groupValid g = true) {e : Byte} (he : e ≠ 0) :
    groupValid { g with d1 := g.d1 ^^^ e } = false := by
  rw [← Bool.not_eq_true]
  intro h
  have hpass : e = crcRounds 8 0 := (groupValid_xor_iff hg 0 e).1 (by simpa using h)
  exact he (hpass.trans (crcRounds_zero 8))

/-- A change of a valid group's check byte is detected. -/
theorem groupValid_xor_crc {g : Group} (hg : groupValid g = true) {e : Byte} (he : e ≠ 0) :
    groupValid { g with crc := g.crc ^^^ e } = false := by
  have hcrc : crc8 g.d0 g.d1 = g.crc := beq_iff_eq.1 hg
  rw [groupValid, hcrc, beq_eq_false_iff_ne]
  intro h
  exact he (xor_left_eq_self_iff.1 h.symm)

/-! ### How many bits a change that passes has -/

/-- OR has no more bits than its operands together. -/
theorem cpop_or_le {w : Nat} (x y : BitVec w) : (x ||| y).cpop.toNat ≤ x.cpop.toNat + y.cpop.toNat := by
  simp only [BitVec.toNat_cpop]
  suffices ∀ n, (x ||| y).cpopNatRec n 0 ≤ x.cpopNatRec n 0 + y.cpopNatRec n 0 from this w
  intro n
  induction n with
  | zero => simp
  | succ n ih =>
    have hbit : (x.getLsbD n || y.getLsbD n).toNat ≤ (x.getLsbD n).toNat + (y.getLsbD n).toNat := by
      cases x.getLsbD n <;> cases y.getLsbD n <;> decide
    simp only [BitVec.cpopNatRec_succ, BitVec.getLsbD_or, BitVec.cpopNatRec_eq (0 + _)]
    omega

/-- The bits of a word are those of its two bytes. -/
theorem cpop_hi_lo (w : Word16) : (hiByte w).cpop.toNat + (loByte w).cpop.toNat = w.cpop.toNat := by
  rw [← BitVec.toNat_cpop_append]
  exact congrArg (fun v : Word16 => v.cpop.toNat) (joinBytes_hi_lo w)

/-- The shortest undetected change has four bits (95 V3.3): a byte and its eight rounds have that many, if it is not 0. -/
theorem four_le_cpop_add_cpop_crcRounds :
    ∀ b : Byte, b ≠ 0 → 4 ≤ b.cpop.toNat + (crcRounds 8 b).cpop.toNat := by
  decide

/-- A change of at least one and at most three data bits of a valid group is detected. -/
theorem groupValid_xor_of_cpop_le {g : Group} (hg : groupValid g = true) {e : Word16} (hne : e ≠ 0)
    (hbits : e.cpop.toNat ≤ 3) :
    groupValid { g with d0 := g.d0 ^^^ hiByte e, d1 := g.d1 ^^^ loByte e } = false := by
  rw [← Bool.not_eq_true, groupValid_xor_iff hg]
  intro hlo
  have hhi : hiByte e = 0 := by
    by_contra h
    have hfour := four_le_cpop_add_cpop_crcRounds _ h
    rw [← hlo, cpop_hi_lo] at hfour
    omega
  apply hne
  rw [← joinBytes_hi_lo e, hlo, hhi, crcRounds_zero]
  rfl

/-- A change of a valid group's data that is the OR of three single bits is detected. -/
theorem groupValid_xor_three_bits {g : Group} (hg : groupValid g = true) {x y z : Word16} (hx : x.cpop.toNat = 1)
    (hy : y.cpop.toNat = 1) (hz : z.cpop.toNat = 1) :
    groupValid { g with d0 := g.d0 ^^^ hiByte (x ||| y ||| z), d1 := g.d1 ^^^ loByte (x ||| y ||| z) } = false := by
  apply groupValid_xor_of_cpop_le hg
  · intro h
    have hzero : x = 0 := (BitVec.or_eq_zero_iff.1 (BitVec.or_eq_zero_iff.1 h).1).1
    simp [hzero] at hx
  · have hxy := cpop_or_le x y
    have hxyz := cpop_or_le (x ||| y) z
    omega

/-! ### The obligations -/

set_option maxRecDepth 10000 in
/-- Settles O9: one round is `crcRound_toNat`, and the vectors are run. -/
theorem crcRoundsAndVectors : Obligations.CrcRoundsAndVectors :=
  ⟨crcRound_toNat, fun _ => rfl, fun _ _ => rfl, by decide⟩

/-- Settles O10: what a payload moves the check byte by is the XOR of its own check byte and the zero payload's. -/
theorem crcIsAffine : Obligations.CrcIsAffine := by
  intro a0 a1 b0 b1
  have hb : crc8 b0 b1 = crc8 0 0 ^^^ crcRounds 8 (crcRounds 8 b0 ^^^ b1) := by
    simpa using crc8_xor 0 0 b0 b1
  rw [crc8_xor, BitVec.xor_assoc, hb, BitVec.xor_comm (crc8 0 0), BitVec.xor_assoc _ (crc8 0 0), BitVec.xor_self,
    BitVec.xor_zero]

set_option maxRecDepth 10000 in
/-- Settles O11: one flipped bit is a change within one byte of the group. -/
theorem singleBitCorruptionIsDetected : Obligations.SingleBitCorruptionIsDetected := by
  refine ⟨fun g hg i => ?_, by decide⟩
  have hbit : ((1 <<< i.val : Nat) : Byte) ≠ 0 := by
    revert i
    decide
  exact ⟨groupValid_xor_d0 hg hbit, groupValid_xor_d1 hg hbit, groupValid_xor_crc hg hbit⟩

/-- Settles O12: the OR of three single bits has one to three bits, and a change that passes has four. -/
theorem upToThreeBitErrorsAreDetected : Obligations.UpToThreeBitErrorsAreDetected := by
  rintro g i j k hg e rfl
  have hone : ∀ i : Fin 16, ((1 <<< i.val : Nat) : Word16).cpop.toNat = 1 := by decide
  exact groupValid_xor_three_bits hg (hone i) (hone j) (hone k)

end Sys2Proof.Machine
end

section
/-! PROOFS of the converter family. The value of each conversion is the scaled raw word, plus the offset for the
temperature: the narrowing to the result's type drops nothing, so range and order are those of the scaled word. -/

namespace Sys2Proof.Machine

/-- A larger raw word scales to no smaller a value. -/
theorem scaled_le_scaled (span : Nat) {a b : Word16} (hab : a.toNat ≤ b.toNat) :
    span * a.toNat / convDiv ≤ span * b.toNat / convDiv :=
  Nat.div_le_div_right (Nat.mul_le_mul_left span hab)

/-- The offset and the scaled word fit in an `i32` (R130). -/
theorem convT_toInt (raw : Word16) : (convT raw).toInt = tOffset + ((tSpan * raw.toNat / convDiv : Nat) : Int) := by
  have hspan : tSpan * raw.toNat / convDiv ≤ 17500 := scaled_le_span tSpan raw
  unfold convT tOffset
  generalize tSpan * raw.toNat / convDiv = n at hspan
  exact BitVec.toInt_ofInt_eq_self (by decide) (by omega) (by omega)

/-- The scaled word fits in 16 bits, so the slice drops no bit (R131). -/
theorem convRH_toNat (raw : Word16) : (convRH raw).toNat = rhSpan * raw.toNat / convDiv :=
  Nat.mod_eq_of_lt ((scaled_le_span rhSpan raw).trans_lt (by decide))

/-! ### The obligations -/

/-- Settles O13: the formula is `convT_toInt`, the range `convT_range`, and the corner cases are run. -/
theorem temperatureIsExact : Obligations.TemperatureIsExact :=
  ⟨fun raw => ⟨convT_toInt raw, convT_range raw⟩, by decide⟩

/-- Settles O14: the formula is `convRH_toNat`, the bound `convRH_le`, and the corner cases are run. -/
theorem humidityIsExact : Obligations.HumidityIsExact :=
  ⟨fun raw => ⟨convRH_toNat raw, convRH_le raw⟩, by decide⟩

/-- Settles O15: both conversions keep the order of the scaled words. -/
theorem conversionsAreMonotone : Obligations.ConversionsAreMonotone := by
  intro a b hab
  constructor
  · rw [convT_toInt, convT_toInt]
    exact Int.add_le_add_left (Int.ofNat_le.2 (scaled_le_scaled tSpan hab)) tOffset
  · rw [convRH_toNat, convRH_toNat]
    exact scaled_le_scaled rhSpan hab

end Sys2Proof.Machine
end

section
/-! PROOFS of the status-decoder family. The view is the raw word under the mask, so each of its bits is decided by the mask's
bit at the same place; the mask's bits are the seven known ones. -/

namespace Sys2Proof.Machine

/-- Within the word the bits are compared one by one; past it both sides are false. -/
theorem getLsbD_statusKnownMask (i : Nat) :
    statusKnownMask.getLsbD i = decide (i = 15 ∨ i = 13 ∨ i = 11 ∨ i = 10 ∨ i = 4 ∨ i = 1 ∨ i = 0) := by
  by_cases hi : i < 16
  · have hword : ∀ k : Fin 16, statusKnownMask.getLsbD k =
        decide (k.val = 15 ∨ k.val = 13 ∨ k.val = 11 ∨ k.val = 10 ∨ k.val = 4 ∨ k.val = 1 ∨ k.val = 0) := by decide
    exact hword ⟨i, hi⟩
  · have hpast : statusKnownMask.getLsbD i = false := BitVec.getLsbD_of_ge _ _ (by omega)
    rw [hpast, eq_comm, decide_eq_false_iff_not]
    omega

theorem getLsbD_decodeStatus (raw : Word16) (i : Nat) :
    (decodeStatus raw).getLsbD i = (raw.getLsbD i && statusKnownMask.getLsbD i) :=
  BitVec.getLsbD_and

/-- R141: a bit of the mask stands in the view as it was read. -/
theorem getLsbD_decodeStatus_of_known (raw : Word16) {i : Nat} (hi : statusKnownMask.getLsbD i = true) :
    (decodeStatus raw).getLsbD i = raw.getLsbD i := by
  rw [getLsbD_decodeStatus, hi, Bool.and_true]

/-! ### The obligations -/

/-- Settles O16: a bit of the view is the raw bit and the mask's bit, and the corner cases are run. -/
theorem statusViewKeepsKnownBits : Obligations.StatusViewKeepsKnownBits := by
  refine ⟨fun raw i => ?_, by decide⟩
  rw [getLsbD_decodeStatus, getLsbD_statusKnownMask]

/-- Settles O17: each accessor's bit is in the mask, so the view has it from the raw word; the seven one-bit words are run. -/
theorem flagAccessorsReadTheirBits : Obligations.FlagAccessorsReadTheirBits := by
  refine ⟨fun f => ⟨rfl, rfl, rfl, rfl, rfl, rfl, rfl⟩, fun raw => ?_, by decide⟩
  have hview {i : Nat} (hi : statusKnownMask.getLsbD i = true) := getLsbD_decodeStatus_of_known raw hi
  exact ⟨hview (i := 15) rfl, hview (i := 13) rfl, hview (i := 11) rfl, hview (i := 10) rfl, hview (i := 4) rfl,
    hview (i := 1) rfl, hview (i := 0) rfl⟩

end Sys2Proof.Machine
end

section
/-! PROOFS of the transactions family, part 1. The host requests: acceptance in IDLE, waiting outside it, and the step that
runs a presented word. -/

namespace Sys2Proof.Machine

/-! ### Acceptance and waiting -/

/-- In IDLE the instruction of a request is acceptance (R160). -/
theorem exec_of_request_idle {i : Instr} {q : Request} {s : State} (hi : i.request? = some q) (hp : s.phase = .idle) :
    exec i s = .next (accept q s) := by
  rw [exec_of_request hi, request_of_idle q hp]

/-- Settles O25: the four instructions are one operation on their records. -/
theorem requestsAreAcceptedInIdle : Obligations.RequestsAreAcceptedInIdle := fun _ _ hq hp =>
  exec_of_request_idle (request?_ofRequest hq) hp

/-- Settles O26, by running the tables. -/
theorem waitLengthAndCommandTables : Obligations.WaitLengthAndCommandTables :=
  ⟨fun _ => ⟨rfl, rfl, rfl⟩, fun _ _ => ⟨rfl, rfl, rfl⟩, rfl, rfl, rfl, rfl,
    fun _ _ => ⟨rfl, rfl, rfl, rfl⟩, rfl, rfl, rfl⟩

/-- Only the moves of IDLE take a word from the port (R174). -/
theorem PhaseMove.hostPort_of_busy {s t : State} (h : PhaseMove s t) (hp : s.phase ≠ .idle) : t.hostPort = s.hostPort := by
  cases h with
  | wait hi | accept _ hi | encode _ hi | refuse _ hi => exact absurd hi hp
  | _ => rfl

/-- Settles O27: a request outside IDLE changes nothing, and neither block reset nor a busy move takes a word. -/
theorem requestsWaitOutsideIdle : Obligations.RequestsWaitOutsideIdle := by
  constructor
  · intro i q s hi hp
    rw [exec_of_request hi, request_of_busy q hp]
  · intro s t hp h
    rcases step_next_cases h with ⟨_, rfl⟩ | ⟨_, hm⟩
    · rfl
    · exact hm.hostPort_of_busy hp

/-! ### The step that runs a word -/

/-- Settles O28: IDLE takes the word from the port and runs what it decodes to. -/
theorem stepRunsDecodedInstruction : Obligations.StepRunsDecodedInstruction := by
  intro s w rest i hp hr hport hd
  rw [step_of_no_reset hr, phaseStep_of_idle (s := tick s) hp, idleStep_of_decoded (s := tick s) hport hd]
  simp [consume, tick, hport]

/-- A presented word finds block reset not asserted. -/
theorem present_resetLine_head? (w : HostWord) (s : State) : (present w s).resetLine.head? ≠ some true := by
  rw [present_resetLine, resetAsserted, List.headD_eq_head?_getD]
  cases h : s.resetLine.head? with
  | none => simp [h]
  | some b => cases b <;> simp [h]

/-- Presenting a word changes no sample of the block-reset input after the next. -/
theorem present_resetLine_tail (w : HostWord) (s : State) : (present w s).resetLine.tail = s.resetLine.tail := by
  rw [present_resetLine]
  split <;> rfl

/-- Bytes that decode to an instruction are a word of this block that decodes to it. -/
theorem exists_word_of_decodeBytes {t : OpcodeTable} {bs : List Byte} {i : Instr} (h : decodeBytes t bs = some i) :
    ∃ w, HostWord.ofBytes bs = some w ∧ decode t w = .ok i := by
  unfold decodeBytes at h
  split at h
  next w hw =>
    cases hd : decode t w with
    | error e => simp [hd, Except.toOption] at h
    | ok j =>
      obtain rfl : j = i := by simpa [hd, Except.toOption] using h
      exact ⟨w, hw, hd⟩
  next => cases h

/-- Settles O29: the placed word is presented in IDLE with block reset not asserted, so it runs. -/
theorem placedWordRunsNext : Obligations.PlacedWordRunsNext := by
  intro s nbits w i ht hw
  obtain ⟨hw', hbytes, hd⟩ := exists_word_of_decodeBytes hw
  have hplaced : s.withFetchWord nbits w = present hw' s := by rw [State.withFetchWord, hbytes]
  rw [hplaced, stepRunsDecodedInstruction (present hw' s) hw' s.hostPort i rfl (present_resetLine_head? hw' s) rfl (ht ▸ hd),
    present_resetLine_tail]
  rfl

end Sys2Proof.Machine
end

section
/-! PROOFS of the transactions family, part 2. The step of each phase of a transaction, with what it leaves unchanged. -/

namespace Sys2Proof.Machine

/-! ### WRITE, DELAY and READ -/

/-- Settles O33, answer by answer. -/
theorem writeStepIssuesTheFrame : Obligations.WriteStepIssuesTheFrame := by
  intro s hp hr
  rw [step_of_no_reset hr, phaseStep_of_write (s := tick s) hp]
  cases ha : writeAnswer s with
  | ok => exact ⟨_, writeStep_of_ok (s := tick s) ha, by simp⟩
  | err e => exact ⟨_, writeStep_of_err (s := tick s) ha, by simp⟩

/-- Settles O34, with and without a response expected. -/
theorem delayStepWaitsThenReadsOrResponds : Obligations.DelayStepWaitsThenReadsOrResponds := by
  intro s hp hr
  rw [step_of_no_reset hr, phaseStep_of_delay (s := tick s) hp]
  by_cases hn : s.rxlen = .zero
  · exact ⟨_, delayStep_of_zero (s := tick s) hn, by simp [hn, rxBytes]⟩
  · have hpos : rxBytes s.rxlen ≠ 0 := by have := rxBytes_of_ne_zero hn; omega
    exact ⟨_, delayStep_of_ne_zero (s := tick s) hn, by simp [hpos]⟩

/-- Settles O35, answer by answer. -/
theorem readStepFillsTheBuffer : Obligations.ReadStepFillsTheBuffer := by
  intro s hp hr
  rw [step_of_no_reset hr, phaseStep_of_read (s := tick s) hp]
  cases ha : readAnswer s with
  | ok b => exact ⟨_, readStep_of_ok (s := tick s) ha, by simp [fillRx_getElem]⟩
  | err e => exact ⟨_, readStep_of_err (s := tick s) ha, by simp⟩

/-! ### CHECK -/

/-- Settles O36: six filled cells are two groups. -/
theorem measureCheckConvertsBothOrNeither : Obligations.MeasureCheckConvertsBothOrNeither := by
  intro s b0 b1 b2 b3 b4 b5 hp hr hop hbuf
  have hg : firstGroup s.rxbuf = some ⟨b0, b1, b2⟩ := by rw [hbuf]; rfl
  have hg' : secondGroup s.rxbuf = some ⟨b3, b4, b5⟩ := by rw [hbuf]; rfl
  rw [step_of_no_reset hr, phaseStep_of_check (s := tick s) hp]
  simpa [groupWord, joinBytes, tick] using checkStep_of_measure (s := tick s) hop hg hg'

/-- Settles O37: three filled cells are the first group, and the others are not read. -/
theorem statusCheckGivesTheFlagView : Obligations.StatusCheckGivesTheFlagView := by
  intro s b0 b1 b2 hp hr hop h0 h1 h2
  have hg : firstGroup s.rxbuf = some ⟨b0, b1, b2⟩ := by simp [firstGroup, h0, h1, h2]
  rw [step_of_no_reset hr, phaseStep_of_check (s := tick s) hp]
  simpa [groupWord, joinBytes, decodeStatus, statusKnownMask, tick] using checkStep_of_status (s := tick s) hop hg

/-! ### RESPOND -/

/-- The state after `k` more steps in RESPOND with the result not taken: the scripts' first `k` entries are used, and nothing
else has changed (R166). -/
def offeredFor (k : Nat) (s : State) : State :=
  { s with hostTakes := s.hostTakes.drop k, resetLine := s.resetLine.drop k }

/-- While the host does not take the result, each step uses one entry of the scripts. -/
theorem run_of_untaken {s : State} {r : Result} {k : Nat} {rest : List Bool} (m : Nat) (hp : s.phase = .respond)
    (hres : s.result = some r) (hc : calm s) (htakes : s.hostTakes = List.replicate k false ++ rest) :
    Host.Core.run core (k + m) s = Host.Core.run core m (offeredFor k s) := by
  induction k generalizing s with
  | zero => rw [Nat.zero_add]; rfl
  | succ k ih =>
    have hnot : hostTakesNow s = false := by simp [hostTakesNow, htakes, List.replicate_succ]
    have hstep : step s = .next (advanceTakes (tick s)) := by
      rw [step_of_calm hc, phaseStep_of_respond (s := tick s) hp, respondStep_of_offered (s := tick s) hres hnot]
    have hrest : (advanceTakes (tick s)).hostTakes = List.replicate k false ++ rest := by
      simp [htakes, List.replicate_succ]
    rw [Nat.add_right_comm, run_of_step (M := core) hstep, ih (s := advanceTakes (tick s)) hp hres (calm_tick hc) hrest]
    simp [offeredFor, advanceTakes, tick]

/-- Where the host takes the result, the block is IDLE at the next step with the result recorded (R166). -/
theorem step_of_taken {s : State} {r : Result} (hp : s.phase = .respond) (hres : s.result = some r) (hc : calm s)
    (htake : hostTakesNow s = true) : step s = .next (release r (advanceTakes (tick s))) := by
  rw [step_of_calm hc, phaseStep_of_respond (s := tick s) hp, respondStep_of_taken (s := tick s) hres htake]

theorem calm_offeredFor {s : State} (k : Nat) (hc : calm s) : calm (offeredFor k s) := fun h => hc (List.mem_of_mem_drop h)

/-- Settles O39: the steps before the host takes the result, and the step at which it does. -/
theorem resultWaitsForTheHost : Obligations.ResultWaitsForTheHost := by
  intro s r n later hp hres hc htakes
  constructor
  · intro k hk
    have hsplit : s.hostTakes = List.replicate k false ++ (List.replicate (n - k) false ++ true :: later) := by
      rw [htakes, ← List.append_assoc, List.replicate_append_replicate, Nat.add_sub_cancel' hk]
    exact ⟨offeredFor k s, run_of_untaken 0 hp hres hc hsplit, hp, hres, rfl, rfl, rfl⟩
  · have htake : hostTakesNow (offeredFor n s) = true := by simp [hostTakesNow, offeredFor, htakes]
    have hlast := step_of_taken (s := offeredFor n s) hp hres (calm_offeredFor n hc) htake
    exact ⟨_, (run_of_untaken 1 hp hres hc htakes).trans (run_of_step (M := core) hlast 0), rfl, rfl, rfl, rfl, rfl⟩

end Sys2Proof.Machine
end

section
/-! PROOFS of the transactions family, part 3. Whole transactions: the outcomes of the four operations, read from the blocking
call that the sequencer refines, and the end that every transaction in progress comes to. -/

namespace Sys2Proof.Machine

/-! ### The blocking call, outcome by outcome -/

section
variable (cfg : Config) (addr : BusAddr) (q : Request)

theorem blockingCall_of_write_err (e : TransportError) (r : ReadAnswer) :
    blockingCall cfg addr q (.err e) r =
      ([.write addr (frameOf (cfg.cmdOpcode.enc (opc q))) (.err e)], .err (.bus e)) := by
  rw [blockingCall_eq, writeFirst]

variable {q}

theorem blockingCall_of_no_response (hn : lenOf q.op = .zero) (r : ReadAnswer) :
    blockingCall cfg addr q .ok r =
      ([.write addr (frameOf (cfg.cmdOpcode.enc (opc q))) .ok, .delay (waitOf q)], .ok .unit) := by
  rw [blockingCall_eq, if_pos hn, writeFirst]

theorem blockingCall_of_read_err (hn : lenOf q.op ≠ .zero) (e : TransportError) :
    blockingCall cfg addr q .ok (.err e) =
      ([.write addr (frameOf (cfg.cmdOpcode.enc (opc q))) .ok, .delay (waitOf q),
        .read addr (rxBytes (lenOf q.op)) (.err e)], .err (.bus e)) := by
  rw [blockingCall_eq, if_neg hn, writeFirst, delayThenRead]

theorem blockingCall_of_response (hn : lenOf q.op ≠ .zero) (b : Vector Byte 6) :
    blockingCall cfg addr q .ok (.ok b) =
      ([.write addr (frameOf (cfg.cmdOpcode.enc (opc q))) .ok, .delay (waitOf q),
        .read addr (rxBytes (lenOf q.op)) (.ok (b.toList.take (rxBytes (lenOf q.op))))], responseResult q.op b) := by
  rw [blockingCall_eq, if_neg hn, writeFirst, delayThenRead]

end

/-! ### The bytes and the word of a transaction -/

/-- The word of a legal record decodes to the row of the record, under every table. -/
theorem decode_encodeReq (t : OpcodeTable) {q : Request} (h : q.wellFormed = true) :
    decode t (.request (encodeReq q)) = .ok (Instr.ofRequest q) := by
  rw [decode, decodeReq_encodeReq h, Except.map]

/-- A read of six bytes takes them all. -/
theorem take_six_toList (b : Vector Byte 6) : b.toList.take 6 = b.toList :=
  List.take_of_length_le (by simp)

/-- A read of three bytes takes the first three. -/
theorem take_three_toList (b : Vector Byte 6) : b.toList.take 3 = [b[0], b[1], b[2]] := by
  apply List.ext_getElem (by simp)
  intro i _ hi
  simp only [List.length_cons, List.length_nil] at hi
  interval_cases i <;> simp

/-! ### The four operations -/

/-- Against `s`, the block in `u` has issued the events `es` and holds the result `r`. -/
def issuedAndHolds (s u : State) (es : List Event) (r : Result) : Prop :=
  u.trace = s.trace ++ es ∧ u.result = some r

section
variable {i : Instr} {q : Request} {s : State}

/-- The run of a request in IDLE, from its acceptance to the result of its blocking call (O50). -/
theorem transaction_of_request (hi : i.request? = some q) (hp : s.phase = .idle) (hc : calm s) :
    ∃ (t : State) (k : Nat) (u : State), exec i s = .next t ∧ Host.Core.run core k t = .next u ∧ u.phase = .respond ∧
      u.addr = s.addr ∧ issuedAndHolds s u (blockingCall s.cfg s.addr q (writeAnswer s) (readAnswer s)).1
        (blockingCall s.cfg s.addr q (writeAnswer s) (readAnswer s)).2 := by
  obtain ⟨k, u, _, hrun, hph, hres, htr, _, haddr, _⟩ := finishes_of_accept hc q
  exact ⟨_, k, u, exec_of_request_idle hi hp, hrun, hph, haddr, htr, hres⟩

variable {f : Frame}

/-- The run of a request without a response: both outcomes (R171, R173). -/
theorem transaction_without_response (hi : i.request? = some q) (hp : s.phase = .idle) (hc : calm s)
    (hn : lenOf q.op = .zero) (hf : frameOf (s.cfg.cmdOpcode.enc (opc q)) = f) :
    ∃ (t : State) (k : Nat) (u : State), exec i s = .next t ∧ Host.Core.run core k t = .next u ∧ u.phase = .respond ∧
      u.addr = s.addr ∧
      (∀ e, writeAnswer s = .err e → issuedAndHolds s u [.write s.addr f (.err e)] (.err (.bus e))) ∧
      (writeAnswer s = .ok → issuedAndHolds s u [.write s.addr f .ok, .delay (waitOf q)] (.ok .unit)) := by
  obtain ⟨t, k, u, hexec, hrun, hph, haddr, hend⟩ := transaction_of_request hi hp hc
  refine ⟨t, k, u, hexec, hrun, hph, haddr, fun e hw => ?_, fun hw => ?_⟩
  · rwa [hw, blockingCall_of_write_err, hf] at hend
  · rwa [hw, blockingCall_of_no_response _ _ hn, hf] at hend

/-- The run of a request with a response: the failed write, the failed read, and what is made of the bytes (R170, R172). -/
theorem transaction_with_response (hi : i.request? = some q) (hp : s.phase = .idle) (hc : calm s)
    (hn : lenOf q.op ≠ .zero) (hf : frameOf (s.cfg.cmdOpcode.enc (opc q)) = f) :
    ∃ (t : State) (k : Nat) (u : State), exec i s = .next t ∧ Host.Core.run core k t = .next u ∧ u.phase = .respond ∧
      (∀ e, writeAnswer s = .err e → issuedAndHolds s u [.write s.addr f (.err e)] (.err (.bus e))) ∧
      (∀ e, writeAnswer s = .ok → readAnswer s = .err e → issuedAndHolds s u
        [.write s.addr f .ok, .delay (waitOf q), .read s.addr (rxBytes (lenOf q.op)) (.err e)] (.err (.bus e))) ∧
      (∀ b, writeAnswer s = .ok → readAnswer s = .ok b → issuedAndHolds s u
        [.write s.addr f .ok, .delay (waitOf q),
          .read s.addr (rxBytes (lenOf q.op)) (.ok (b.toList.take (rxBytes (lenOf q.op))))] (responseResult q.op b)) := by
  obtain ⟨t, k, u, hexec, hrun, hph, _, hend⟩ := transaction_of_request hi hp hc
  refine ⟨t, k, u, hexec, hrun, hph, fun e hw => ?_, fun e hw hr => ?_, fun b hw hr => ?_⟩
  · rwa [hw, blockingCall_of_write_err, hf] at hend
  · rwa [hw, hr, blockingCall_of_read_err _ _ hn, hf] at hend
  · rwa [hw, hr, blockingCall_of_response _ _ hn, hf] at hend

end

/-- Settles O51: the run of the single-shot command, with the wait of its repeatability and the two groups of its response. -/
theorem measureTransactionOutcomes : Obligations.MeasureTransactionOutcomes := by
  rintro cs rep s hp hc f w rfl hms
  refine ⟨decode_encodeReq _ (q := ⟨.measure, cs, rep⟩) rfl, ?_⟩
  have hwait : waitOf ⟨.measure, cs, rep⟩ = w := by
    rw [hms]
    cases rep <;> rfl
  obtain ⟨t, k, u, hexec, hrun, hph, hwerr, hrerr, hok⟩ :=
    transaction_with_response (i := .measure cs rep) (q := ⟨.measure, cs, rep⟩) rfl hp hc (by simp [lenOf]) rfl
  rw [hwait] at hrerr hok
  refine ⟨t, k, u, hexec, hrun, hph, hwerr, hrerr, fun b hw hr => ?_⟩
  obtain ⟨htr, hres⟩ := hok b hw hr
  refine ⟨take_six_toList b ▸ htr, fun hbad => ?_, fun hgood => ?_⟩
  · rw [hres, responseResult, measureResult, if_neg (not_and_or.mpr hbad)]
  · rw [hres, responseResult, measureResult, if_pos hgood]

/-- Settles O52: RESET has no response. -/
theorem resetTransactionOutcomes : Obligations.ResetTransactionOutcomes := by
  intro s hp hc ht
  exact ⟨decode_encodeReq _ (q := ⟨.reset, .disabled, .high⟩) rfl,
    transaction_without_response (i := .reset) (q := ⟨.reset, .disabled, .high⟩) rfl hp hc rfl (by rw [ht]; rfl)⟩

/-- Settles O53: the run of the read-status command, with the one group of its response. -/
theorem statusTransactionOutcomes : Obligations.StatusTransactionOutcomes := by
  intro s hp hc ht
  refine ⟨decode_encodeReq _ (q := ⟨.status, .disabled, .high⟩) rfl, ?_⟩
  obtain ⟨t, k, u, hexec, hrun, hph, hwerr, hrerr, hok⟩ :=
    transaction_with_response (i := .status) (q := ⟨.status, .disabled, .high⟩) (f := ⟨0xF3, 0x2D⟩)
      rfl hp hc (by decide) (by rw [ht]; rfl)
  refine ⟨t, k, u, hexec, hrun, hph, hwerr, hrerr, fun b hw hr => ?_⟩
  obtain ⟨htr, hres⟩ := hok b hw hr
  refine ⟨take_three_toList b ▸ htr, fun hbad => ?_, fun hgood => ?_⟩
  · rw [hres, responseResult, statusResult, if_neg hbad]
  · rw [hres, responseResult, statusResult, if_pos hgood]
    exact ⟨_, rfl, rfl, decodeStatus_reserved _⟩

/-- Settles O54: CLEAR_STATUS has no response. -/
theorem clearStatusTransactionOutcomes : Obligations.ClearStatusTransactionOutcomes := by
  intro s hp hc ht
  refine ⟨decode_encodeReq _ (q := ⟨.clearStatus, .disabled, .high⟩) rfl, ?_⟩
  obtain ⟨t, k, u, hexec, hrun, hph, _, houtcomes⟩ :=
    transaction_without_response (i := .clearStatus) (q := ⟨.clearStatus, .disabled, .high⟩) (f := ⟨0x30, 0x41⟩)
      rfl hp hc rfl (by rw [ht]; rfl)
  exact ⟨t, k, u, hexec, hrun, hph, houtcomes⟩

/-! ### The end of a transaction in progress -/

/-- Within `n` steps and `m` events the block offers a result. -/
def EndsWithin (n m : Nat) (s : State) : Prop :=
  ∃ call, Finishes n s call ∧ call.1.length ≤ m

theorem EndsWithin.mono {n n' m m' : Nat} {s : State} (hn : n ≤ n') (hm : m ≤ m') (h : EndsWithin n m s) :
    EndsWithin n' m' s := by
  obtain ⟨call, ⟨k, u, hk, hrun⟩, hlen⟩ := h
  exact ⟨call, ⟨k, u, hk.trans hn, hrun⟩, hlen.trans hm⟩

/-- A buffer whose first `n` cells hold bytes is the buffer that a read of these bytes fills. -/
theorem exists_eq_fillRx {n : Nat} {buf : Vector (Option Byte) 6} (h : ∀ i : Fin 6, i.val < n → buf[i].isSome = true) :
    ∃ b, buf = fillRx n b buf := by
  refine ⟨buf.map (·.getD 0), Vector.ext fun i hi => ?_⟩
  rw [fillRx_getElem, Vector.getElem_map]
  split
  next hlt =>
    obtain ⟨d, hd⟩ := Option.isSome_iff_exists.mp (h ⟨i, hi⟩ hlt)
    have hcell : buf[i] = some d := hd
    rw [hcell, Option.getD_some]
  next => rfl

namespace BlockInv
variable {s : State}

theorem endsWithin_of_check (h : BlockInv s) (hc : calm s) (hp : s.phase = .check) : EndsWithin 1 0 s := by
  obtain ⟨_, _, _, hlen⟩ := h.loaded (by simp [hp])
  obtain ⟨b, hb⟩ := exists_eq_fillRx (h.rx_filled hp)
  exact ⟨_, finishes_of_check hc hp (hlen ▸ h.reads (.inr hp)) (hlen ▸ hb), le_rfl⟩

theorem endsWithin_of_read (h : BlockInv s) (hc : calm s) (hp : s.phase = .read) : EndsWithin 2 1 s := by
  obtain ⟨_, _, _, hlen⟩ := h.loaded (by simp [hp])
  cases ha : readAnswer s with
  | ok b => exact ⟨_, finishes_of_read_ok hc hp hlen (hlen ▸ h.reads (.inl hp)) ha, le_rfl⟩
  | err e => exact ⟨_, finishes_of_read_err hc hp ha, le_rfl⟩

theorem endsWithin_of_delay (h : BlockInv s) (hc : calm s) (hp : s.phase = .delay) : EndsWithin 3 2 s := by
  obtain ⟨_, _, _, hlen⟩ := h.loaded (by simp [hp])
  by_cases hn : s.rxlen = .zero
  · exact ⟨_, finishes_of_delay_unit hc hp hn, by simp⟩
  · refine ⟨_, finishes_of_delay_read hc hp hlen hn, ?_⟩
    cases readAnswer s <;> simp [delayThenRead]

theorem endsWithin_of_write (h : BlockInv s) (hc : calm s) (hp : s.phase = .write) : EndsWithin 4 3 s := by
  obtain ⟨_, htx, _, _⟩ := h.loaded (by simp [hp])
  have hdelay := (h.tick.advanceWrite.record (.write s.addr s.txbuf .ok)).enter (.inl hp) (.inl rfl)
  obtain ⟨rest, hrest, hlen⟩ := hdelay.endsWithin_of_delay (calm_tick hc) rfl
  refine ⟨_, finishes_of_write hc hp htx hrest, ?_⟩
  cases writeAnswer s with
  | ok => exact Nat.succ_le_succ hlen
  | err e => simp [writeFirst]

theorem endsWithin_of_respond (h : BlockInv s) (hp : s.phase = .respond) : EndsWithin 0 0 s := by
  obtain ⟨r, hr⟩ := h.result_some hp
  exact ⟨_, finishes_of_offered 0 hp hr, le_rfl⟩

/-- R169: the phases in turn, each with the steps and the events it still has to come. -/
theorem endsWithin_of_busy (h : BlockInv s) (hc : calm s) (hp : s.phase ≠ .idle) : EndsWithin 4 3 s := by
  cases hph : s.phase with
  | idle => exact absurd hph hp
  | write => exact h.endsWithin_of_write hc hph
  | delay => exact (h.endsWithin_of_delay hc hph).mono (by decide) (by decide)
  | read => exact (h.endsWithin_of_read hc hph).mono (by decide) (by decide)
  | check => exact (h.endsWithin_of_check hc hph).mono (by decide) (by decide)
  | respond => exact (h.endsWithin_of_respond hph).mono (by decide) (by decide)

end BlockInv

/-- Settles O55, phase by phase. -/
theorem transactionsRunToTheirEnd : Obligations.TransactionsRunToTheirEnd := by
  intro s h hc hp
  obtain ⟨call, ⟨k, u, hk, hrun, hph, hres, htr, _, _, _, _, htaken, _⟩, hlen⟩ := h.endsWithin_of_busy hc hp
  exact ⟨k, u, call.1, hk, hrun, hph, by simp [hres], htr, hlen, htaken⟩

end Sys2Proof.Machine
end

section
/-! PROOFS of the exceptions family. The error detail is passed on unread (R201), error entry (R204), and blocks side by
side (R54, R210). -/

namespace Sys2Proof.Machine

/-! ### Renaming the error details commutes with the named operations -/

section
variable (f : TransportError → TransportError) (s : State)

/-! No detail is in what these operations write. -/

theorem renameState_tick : renameState f (tick s) = tick (renameState f s) := rfl
theorem renameState_blockReset : renameState f (blockReset s) = blockReset (renameState f s) := rfl
theorem renameState_consume : renameState f (consume s) = consume (renameState f s) := rfl
theorem renameState_accept (q : Request) : renameState f (accept q s) = accept q (renameState f s) := rfl
theorem renameState_encodeInto (c : Command) : renameState f (encodeInto c s) = encodeInto c (renameState f s) := rfl
theorem renameState_markRefused (e : DecodeError) : renameState f (markRefused e s) = markRefused e (renameState f s) := rfl
theorem renameState_enter (p : Phase) : renameState f (enter p s) = enter p (renameState f s) := rfl
theorem renameState_storeRx (n : Nat) (b : Vector Byte 6) :
    renameState f (storeRx n b s) = storeRx n b (renameState f s) := rfl
theorem renameState_respond (v : Reply) : renameState f (respond v s) = respond v (renameState f s) := rfl
theorem renameState_advanceTakes : renameState f (advanceTakes s) = advanceTakes (renameState f s) := rfl
theorem renameState_raiseError_crc : renameState f (raiseError .crc s) = raiseError .crc (renameState f s) := rfl

/-! These pass a detail on, or drop the one drawn. -/

theorem renameState_raiseError_bus (e : TransportError) :
    renameState f (raiseError (.bus e) s) = raiseError (.bus (f e)) (renameState f s) := rfl

theorem renameState_record (e : Event) : renameState f (record e s) = record (renameEvent f e) (renameState f s) := by
  simp [renameState, record]

theorem renameState_release (r : Result) :
    renameState f (release r s) = release (renameResult f r) (renameState f s) := by
  simp [renameState, release]

theorem renameState_advanceWrite : renameState f (advanceWrite s) = advanceWrite (renameState f s) := by
  simp [renameState, advanceWrite, List.map_tail]

theorem renameState_advanceRead : renameState f (advanceRead s) = advanceRead (renameState f s) := by
  simp [renameState, advanceRead, List.map_tail]

end

/-! ### What the steps read of a renamed state -/

section
variable (f : TransportError → TransportError) {s : State}

/-- A scripted answer to a write is renamed with the script. -/
theorem writeAnswer_renameState (h : s.writeAnswers ≠ []) :
    writeAnswer (renameState f s) = renameWrite f (writeAnswer s) := by
  obtain ⟨a, rest, ha⟩ := List.exists_cons_of_ne_nil h
  simp [writeAnswer, renameState, ha]

/-- A scripted answer to a read is renamed with the script. -/
theorem readAnswer_renameState (h : s.readAnswers ≠ []) : readAnswer (renameState f s) = renameRead f (readAnswer s) := by
  obtain ⟨a, rest, ha⟩ := List.exists_cons_of_ne_nil h
  simp [readAnswer, renameState, ha]

theorem result_renameState {r : Result} (h : s.result = some r) : (renameState f s).result = some (renameResult f r) := by
  simp [renameState, h]

theorem result_renameState_none (h : s.result = none) : (renameState f s).result = none := by simp [renameState, h]

/-! ### The phases' steps commute with the renaming -/

theorem writeStep_renameState (h : s.writeAnswers ≠ []) :
    writeStep (renameState f s) = renameOutcome f (writeStep s) := by
  have hans := writeAnswer_renameState f h
  cases ha : writeAnswer s with
  | ok =>
    rw [ha] at hans
    rw [writeStep_of_ok ha, writeStep_of_ok hans, renameOutcome, renameState_enter, renameState_record,
      renameState_advanceWrite]
    rfl
  | err e =>
    rw [ha] at hans
    rw [writeStep_of_err ha, writeStep_of_err hans, renameOutcome, renameState_raiseError_bus, renameState_record,
      renameState_advanceWrite]
    rfl

theorem delayStep_renameState : delayStep (renameState f s) = renameOutcome f (delayStep s) := by
  by_cases hn : s.rxlen = .zero
  · rw [delayStep_of_zero hn, delayStep_of_zero (s := renameState f s) hn, renameOutcome, renameState_respond,
      renameState_record]
    rfl
  · rw [delayStep_of_ne_zero hn, delayStep_of_ne_zero (s := renameState f s) hn, renameOutcome, renameState_enter,
      renameState_record]
    rfl

theorem readStep_renameState (h : s.readAnswers ≠ []) : readStep (renameState f s) = renameOutcome f (readStep s) := by
  have hans := readAnswer_renameState f h
  cases ha : readAnswer s with
  | ok b =>
    rw [ha] at hans
    rw [readStep_of_ok ha, readStep_of_ok hans, renameOutcome, renameState_enter, renameState_storeRx,
      renameState_record, renameState_advanceRead]
    rfl
  | err e =>
    rw [ha] at hans
    rw [readStep_of_err ha, readStep_of_err hans, renameOutcome, renameState_raiseError_bus, renameState_record,
      renameState_advanceRead]
    rfl

/-- CHECK reads CUR and RXBUF, which hold no detail. -/
theorem checkStep_renameState : checkStep (renameState f s) = renameOutcome f (checkStep s) := by
  rcases checkStep_of_same_response (s := s) (t := renameState f s) rfl rfl with ⟨v, es, et⟩ | ⟨es, et⟩ | ⟨r, es, et⟩ <;>
    rw [es, et] <;> rfl

theorem respondStep_renameState : respondStep (renameState f s) = renameOutcome f (respondStep s) := by
  cases hr : s.result with
  | none =>
    rw [respondStep_of_none hr, respondStep_of_none (result_renameState_none f hr)]
    rfl
  | some r =>
    cases hk : hostTakesNow s with
    | true =>
      rw [respondStep_of_taken hr hk, respondStep_of_taken (result_renameState f hr) hk, renameOutcome,
        renameState_release, renameState_advanceTakes]
    | false =>
      rw [respondStep_of_offered hr hk, respondStep_of_offered (result_renameState f hr) hk, renameOutcome,
        renameState_advanceTakes]

theorem request_renameState (q : Request) : request q (renameState f s) = renameState f (request q s) := by
  by_cases hp : s.phase = .idle
  · rw [request_of_idle q hp, request_of_idle q (s := renameState f s) hp, renameState_accept]
  · rw [request_of_busy q hp, request_of_busy q (s := renameState f s) hp]

theorem exec_renameState (i : Instr) : exec i (renameState f s) = renameOutcome f (exec i s) := by
  rcases request_or_command i with ⟨q, hq⟩ | ⟨c, hc⟩
  · rw [exec_of_request hq, exec_of_request hq, request_renameState, renameOutcome]
  · rw [exec_of_command hc, exec_of_command hc, renameOutcome, renameState_encodeInto]

theorem idleStep_renameState : idleStep (renameState f s) = renameOutcome f (idleStep s) := by
  cases hw : s.hostPort with
  | nil =>
    rw [idleStep_of_empty hw, idleStep_of_empty (s := renameState f s) hw]
    rfl
  | cons w rest =>
    cases hd : decode s.cfg.cmdOpcode w with
    | ok i =>
      rw [idleStep_of_decoded hw hd, idleStep_of_decoded (s := renameState f s) hw hd, ← renameState_consume,
        exec_renameState]
    | error e =>
      rw [idleStep_of_refused hw hd, idleStep_of_refused (s := renameState f s) hw hd, renameOutcome,
        renameState_markRefused, renameState_consume]

theorem phaseStep_renameState (hw : s.phase = .write → s.writeAnswers ≠ []) (hr : s.phase = .read → s.readAnswers ≠ []) :
    phaseStep (renameState f s) = renameOutcome f (phaseStep s) := by
  cases hp : s.phase with
  | idle =>
    rw [phaseStep_of_idle hp, phaseStep_of_idle (s := renameState f s) hp]
    exact idleStep_renameState f
  | write =>
    rw [phaseStep_of_write hp, phaseStep_of_write (s := renameState f s) hp]
    exact writeStep_renameState f (hw hp)
  | delay =>
    rw [phaseStep_of_delay hp, phaseStep_of_delay (s := renameState f s) hp]
    exact delayStep_renameState f
  | read =>
    rw [phaseStep_of_read hp, phaseStep_of_read (s := renameState f s) hp]
    exact readStep_renameState f (hr hp)
  | check =>
    rw [phaseStep_of_check hp, phaseStep_of_check (s := renameState f s) hp]
    exact checkStep_renameState f
  | respond =>
    rw [phaseStep_of_respond hp, phaseStep_of_respond (s := renameState f s) hp]
    exact respondStep_renameState f

end

/-- Settles O57: block reset and the step of every phase commute with the renaming. -/
theorem errorDetailIsNeverRead : Obligations.ErrorDetailIsNeverRead := by
  intro f s hw hr
  by_cases h : s.resetLine.head? = some true
  · rw [step_of_reset h, step_of_reset (s := renameState f s) h]
    rfl
  · rw [step_of_no_reset h, step_of_no_reset (s := renameState f s) h, ← renameState_tick]
    exact phaseStep_renameState f (hw h) (hr h)

/-! ### Error entry -/

/-- A move that offers an error where there was no result is the error entry of WRITE, of READ or of CHECK (R200, R201). -/
theorem PhaseMove.error_entry {s t : State} {e : OpError} (h : PhaseMove s t) (hs : s.result = none)
    (ht : t.result = some (.err e)) :
    (∃ d, e = .bus d ∧ t = raiseError (.bus d) (record (.write s.addr s.txbuf (.err d)) (advanceWrite s))) ∨
    (∃ d, e = .bus d ∧
      t = raiseError (.bus d) (record (.read s.addr (rxBytes s.rxlen) (.err d)) (advanceRead s))) ∨
    (e = .crc ∧ s.phase = .check ∧ t = raiseError .crc s) := by
  cases h with
  | writeFailed d =>
    cases ht
    exact .inl ⟨d, rfl, rfl⟩
  | readFailed d =>
    cases ht
    exact .inr (.inl ⟨d, rfl, rfl⟩)
  | crcFailed hp =>
    cases ht
    exact .inr (.inr ⟨rfl, hp, rfl⟩)
  | _ => simp [hs] at ht

/-- Settles O49: block reset offers no result, and each of the three error entries writes RESULT and PHASE alone. -/
theorem errorEntryIsPrecise : Obligations.ErrorEntryIsPrecise := by
  intro s t e h hs ht
  rcases step_next_cases h with ⟨_, rfl⟩ | ⟨_, hm⟩
  · cases ht
  · rcases hm.error_entry hs ht with ⟨d, rfl, rfl⟩ | ⟨d, rfl, rfl⟩ | ⟨rfl, hp, rfl⟩
    · simp
    · simp
    · simpa using hp

/-! ### Blocks side by side -/

/-- No address is found twice exactly where all addresses differ. -/
theorem duplicateAddr_eq_none_iff (sys : List State) : duplicateAddr sys = none ↔ (sys.map State.addr).Nodup := by
  induction sys with
  | nil => simp [duplicateAddr]
  | cons s rest ih =>
    have hany : rest.any (fun t => t.addr == s.addr) = true ↔ s.addr ∈ rest.map State.addr := by simp
    rw [duplicateAddr, List.map_cons, List.nodup_cons, ← ih, ← hany]
    split <;> simp [*]

/-- Two blocks at one address are found. -/
theorem exists_duplicateAddr {sys : List State} {i j : Nat} {s t : State} (hij : i < j) (hi : sys[i]? = some s)
    (hj : sys[j]? = some t) (ha : s.addr = t.addr) : ∃ a, duplicateAddr sys = some a := by
  rw [← Option.ne_none_iff_exists', Ne, duplicateAddr_eq_none_iff, List.nodup_iff_getElem?_ne_getElem?]
  intro h
  have hj' : j < (sys.map State.addr).length := by simpa using (List.getElem?_eq_some_iff.mp hj).1
  exact h i j hij hj' (by simp [hi, hj, ha])

theorem systemStep_of_duplicate {k : Nat} {sys : List State} {a : BusAddr} (h : duplicateAddr sys = some a) :
    systemStep k sys = .refused (.duplicateAddress a) := by
  simp [systemStep, h]

theorem systemStep_of_step {k : Nat} {sys : List State} {s s' : State} (hd : duplicateAddr sys = none)
    (hk : sys[k]? = some s) (hs : step s = .next s') : systemStep k sys = .next (sys.set k s') := by
  simp [systemStep, hd, hk, hs]

/-- A system's step that goes on is the step of block `k`, put in that block's place; where there is no block `k` nothing
happens. -/
theorem systemStep_next_cases {k : Nat} {sys sys' : List State} (h : systemStep k sys = .next sys') :
    (sys[k]? = none ∧ sys' = sys) ∨ ∃ s s', sys[k]? = some s ∧ step s = .next s' ∧ sys' = sys.set k s' := by
  cases hd : duplicateAddr sys with
  | some a => simp [systemStep_of_duplicate hd] at h
  | none =>
    cases hk : sys[k]? with
    | none => exact .inl ⟨rfl, by simpa [systemStep, hd, hk] using h.symm⟩
    | some s =>
      cases hs : step s with
      | next s' =>
        rw [systemStep_of_step hd hk hs] at h
        cases h
        exact .inr ⟨s, s', rfl, hs, rfl⟩
      | fault r => simp [systemStep, hd, hk, hs] at h
      | refused r => simp [systemStep, hd, hk, hs] at h

/-- The step of block `k` keeps the number of blocks and every other block, and is that block's own step (R54). -/
theorem systemStep_is_local {k : Nat} {sys sys' : List State} (h : systemStep k sys = .next sys') :
    sys'.length = sys.length ∧ (∀ j, j ≠ k → sys'[j]? = sys[j]?) ∧
    (∀ s, sys[k]? = some s → ∃ s', step s = .next s' ∧ sys'[k]? = some s') := by
  rcases systemStep_next_cases h with ⟨hk, rfl⟩ | ⟨s, s', hk, hs, rfl⟩
  · simp [hk]
  · refine ⟨List.length_set, fun j hj => List.getElem?_set_ne hj.symm, fun u hu => ?_⟩
    obtain rfl : s = u := Option.some.inj (hk.symm.trans hu)
    exact ⟨s', hs, List.getElem?_set_self (List.getElem?_eq_some_iff.mp hk).1⟩

/-- Settles O59, by what the system's step can do and by which systems have a duplicate address. -/
theorem blocksShareNoState : Obligations.BlocksShareNoState := by
  refine ⟨fun _ _ _ => systemStep_is_local, fun _ sys _ _ hnodup => ?_, fun _ _ _ _ _ _ hij hi hj ha => ?_⟩
  · exact systemStep_of_step ((duplicateAddr_eq_none_iff sys).mpr hnodup)
  · obtain ⟨a, hdup⟩ := exists_duplicateAddr hij hi hj ha
    exact ⟨a, systemStep_of_duplicate hdup⟩

end Sys2Proof.Machine
end

section
/-! PROOFS of the reset family. An asserted block reset uses one sample of its input and puts the block at its reset values, so
what is left of the state is read from the laws of `tick` and `blockReset`. -/

namespace Sys2Proof.Machine

/-- Settles O40: the step is the block reset (R221), whose fields are given by its laws. -/
theorem blockResetAbandonsTheTransaction : Obligations.BlockResetAbandonsTheTransaction := by
  intro s hreset
  refine ⟨blockReset (tick s), step_of_reset hreset, blockReset_phase _, ?addr, blockReset_result _, ?cells, ?kept⟩
  case addr => rw [blockReset_addr, tick_cfg, busAddress]
  case cells => exact emptyRx_getElem
  case kept => simp

end Sys2Proof.Machine
end
